-- ==== Sys2Proof/Word.lean ====
section
/-! DEFINITION. The words of the host bus and of the print link (00_scope 0.5). -/

namespace Sys2Proof

/-- A byte of a host word or of a link frame. -/
abbrev Byte := BitVec 8

/-- A host word: 16 bits, bit 15 the most significant. -/
abbrev Word := BitVec 16

/-- A word address: 20 bits, 0 to 1,048,575; it names a 16-bit word. -/
abbrev Addr := BitVec 20

end Sys2Proof
end

