-- ==== Sys2Proof/Syntax.lean ====
section
/-! DEFINITION. The commands of the part: one constructor per row of spec/opcode_table.json, and the
types of their operands (what the host bus, the memory side, the print link and the panel bring). -/

namespace Sys2Proof

/-- One of the four logical print channels (00_scope 0.5). -/
inductive ChannelId where
  | c0 | c1 | c2 | c3
  deriving DecidableEq, Repr

/-- A byte as it travels on the host bus or the memory side, with its parity bit (00_scope 0.2). -/
structure BusByte where
  val : Byte
  par : Bool
  deriving DecidableEq, Repr

/-- A word as it travels: the high byte (bits 15 to 8) and the low byte. -/
structure BusWord where
  hi : BusByte
  lo : BusByte
  deriving DecidableEq, Repr

/-- The two byte enables of a host write (00_scope 0.5). -/
structure Enables where
  hi : Bool
  lo : Bool
  deriving DecidableEq, Repr

/-- A write to one word: its address, its byte enables and its data with parity. -/
structure BusWrite where
  addr : Addr
  en : Enables
  data : BusWord
  deriving DecidableEq, Repr

/-- A cycle of the host bus or of the memory side (R120, R135). -/
inductive BusCycle where
  | read (addr : Addr)
  | write (w : BusWrite)
  | locked (w : BusWrite)
  deriving DecidableEq, Repr

/-- Memory's answer to a read: data with parity, or the no-response indication (R120). -/
inductive ReadAnswer where
  | data (w : BusWord)
  | noResponse
  deriving DecidableEq, Repr

/-- Memory's answer to a write (R125). -/
inductive WriteAnswer where
  | accepted
  | noResponse
  deriving DecidableEq, Repr

/-- Memory's answers to a host cycle: `read` serves a READ or the read half of a LOCKED
READ-MODIFY-WRITE, `write` a WRITE or its write half. The half a cycle lacks is not looked at. -/
structure CycleAnswer where
  read : ReadAnswer
  write : WriteAnswer
  deriving DecidableEq, Repr

/-- The three momentary switches of the panel (R154). -/
inductive PanelSwitch where
  | stop | start | eject
  deriving DecidableEq, Repr

/-- The commands of the part. Each is one row of spec/opcode_table.json; LAWS.json gives the row's
mnemonic. The commands that are host cycles carry the cycle as the host presents it and memory's
answer to it: which row a cycle belongs to is decided by the part's state (log entry 5). -/
inductive Instr where
  /-- POWER_ON with the value v of the four board straps (R122). -/
  | powerOn (straps : BitVec 4)
  /-- HOST_BUS_RESET; the channel controllers named take it one after another in this order, the
  others together afterwards (log entry 12). -/
  | hostBusReset (order : List ChannelId)
  /-- HOST_CYCLE_PASS_THROUGH: a host READ or WRITE (R120). -/
  | hostCyclePassThrough (cycle : BusCycle) (ans : CycleAnswer)
  /-- HOST_WINDOW_WRITE: a host write to a window word that has no row of its own (R121). -/
  | hostWindowWrite (w : BusWrite) (ans : WriteAnswer)
  /-- LOCKED_READ_MODIFY_WRITE (R135). -/
  | lockedReadModifyWrite (w : BusWrite) (ans : CycleAnswer)
  /-- STATUS_READ: a host read of a status word (R17). -/
  | statusRead (addr : Addr) (ans : ReadAnswer)
  /-- TALLY_PRESET: a host write to a tally word (R20). -/
  | tallyPreset (w : BusWrite) (ans : WriteAnswer)
  /-- CLEAR: a command-word write that makes a GO with CLEAR set (R8). -/
  | clear (w : BusWrite) (ans : WriteAnswer)
  /-- LOAD_TAPE: a command-word write that makes a LOAD-TAPE GO (R9). -/
  | loadTape (w : BusWrite) (ans : WriteAnswer)
  /-- PRINT_THEN_SPACE: a command-word write that makes a print-then-space GO (R10). -/
  | printThenSpace (w : BusWrite) (ans : WriteAnswer)
  /-- PRINT_THEN_SKIP: a command-word write that makes a print-then-skip GO (R50). -/
  | printThenSkip (w : BusWrite) (ans : WriteAnswer)
  /-- SPACE_ONLY: a command-word write that makes a space-only GO (R49). -/
  | spaceOnly (w : BusWrite) (ans : WriteAnswer)
  /-- SKIP_ONLY: a command-word write that makes a skip-only GO (R50). -/
  | skipOnly (w : BusWrite) (ans : WriteAnswer)
  /-- CELL_WAIT_RETRY (R69). -/
  | cellWaitRetry
  /-- ROOM_WAIT_MOVE (R54). -/
  | roomWaitMove
  /-- RUN_OUT of a channel (R78). -/
  | runOut (ch : ChannelId)
  /-- ROOM_WAIT_RUN_OUT (R100). -/
  | roomWaitRunOut
  /-- STOP: the STOP switch is closed (R157). -/
  | stop
  /-- START: the START switch is closed (R158). -/
  | start
  /-- EJECT: the EJECT switch is closed (R159). -/
  | eject
  /-- SELECTOR_CHANGE: the selector has rested in a position (R155). -/
  | selectorChange (position : ChannelId)
  /-- CHANNEL_TICK: a channel controller takes a tick (R153). -/
  | channelTick (ch : ChannelId)
  /-- LINK_TICK: the link controller takes a tick (R105). -/
  | linkTick
  /-- LINK_LOSS: the tick that brings the silence counter to 3 (R105). -/
  | linkLoss
  /-- REPLY_TIMER_EXPIRY: the tick that brings the reply timer to 0 (R113). -/
  | replyTimerExpiry
  /-- BACKOFF_END: the tick that brings the backoff timer to 0 (R115). -/
  | backoffEnd
  /-- PULSE: a PULSE frame arrives (R104). -/
  | pulse
  /-- ACCEPT: an ACCEPT frame arrives (R111). -/
  | accept (number : Word)
  /-- REJECT: a REJECT frame arrives (R112). -/
  | reject (number : Word) (reason : Byte)
  /-- BUSY: a BUSY frame arrives (R113). -/
  | busy (number : Word)
  /-- BAD_FRAME: bytes arrive that make up a bad frame (R103). -/
  | badFrame (bytes : List Byte)
  /-- ROW: the next ROW frame is built and sent (R108). -/
  | row
  /-- SHEET_END: the last byte of SHEET-END is sent (R109). -/
  | sheetEnd
  /-- OWN_CYCLE_START: the head own cycle begins (R132). -/
  | ownCycleStart
  /-- FETCH_PLACE_GRANT: a free fetch place is granted (R130). -/
  | fetchPlaceGrant
  /-- FETCH_ANSWER: memory answers the FETCH in progress (R126). -/
  | fetchAnswer (ans : ReadAnswer)
  /-- TALLY_WRITE: memory answers the TALLY-WRITE in progress (R131). -/
  | tallyWrite (ans : WriteAnswer)
  /-- HELD_HOST_CYCLE_PASS: the presented host cycle is passed (R134). -/
  | heldHostCyclePass (ans : CycleAnswer)
  /-- PENDING: an apply-word write that finds record bytes missing (R138). -/
  | pending (w : BusWrite) (ans : WriteAnswer)
  /-- BAD_KIND: an apply-word write of a record of no known kind (R142). -/
  | badKind (w : BusWrite) (ans : WriteAnswer)
  /-- CHANNEL: an apply-word write of a CHANNEL record (R144). -/
  | channel (w : BusWrite) (ans : WriteAnswer)
  /-- LAYOUT: an apply-word write of a LAYOUT record (R83). -/
  | layout (w : BusWrite) (ans : WriteAnswer)
  /-- XLATE: an apply-word write of an XLATE record (R147). -/
  | xlate (w : BusWrite) (ans : WriteAnswer)
  /-- GLYPH: an apply-word write of a GLYPH record (R148). -/
  | glyph (w : BusWrite) (ans : WriteAnswer)
  /-- LINK: an apply-word write of a LINK record (R146). -/
  | link (w : BusWrite) (ans : WriteAnswer)
  /-- DISABLE: an apply-word write of a DISABLE record (R149). -/
  | disable (w : BusWrite) (ans : WriteAnswer)
  /-- QUERY: an apply-word write of a QUERY record (R150). -/
  | query (w : BusWrite) (ans : WriteAnswer)
  /-- SWITCH_RELEASE: a switch's contact has stayed open for 20 ms (R154). -/
  | switchRelease (sw : PanelSwitch)
  deriving DecidableEq, Repr

end Sys2Proof
end

