-- ==== Sys2Proof/Config.lean ====
section
/-! DEFINITION. The fixed sizes and limits of the part, each with the rule that states it. -/

namespace Sys2Proof.Config

/-- Cells in the pool (R60). -/
def poolCells : Nat := 24576

/-- Places in the sheet queue (R97). -/
def queuePlaces : Nat := 8

/-- Places of the own-cycle queue that may hold FETCH entries (R129). -/
def fetchPlaces : Nat := 12

/-- The passed-over count at which the starvation guard holds the next host cycle (R133). -/
def guardLimit : Nat := 32

/-- Stall counter from which a channel is stalled (R21). -/
def stallTicks : Nat := 300

/-- The largest value of a saturating 16-bit counter (00_scope 0.5). -/
def counterMax : Nat := 65535

/-- Attempts after which a sheet waits for the operator (R113). -/
def attemptLimit : Nat := 16

/-- Silent ticks that make a link loss (R105). -/
def silenceLimit : Nat := 3

/-- Valid frames that bring the link up (R104). -/
def trainFrames : Nat := 3

/-- The longest payload a frame may carry (R103, 10.6). -/
def maxPayload : Nat := 1500

/-- Strikes a cell can hold (R62). -/
def maxStrikes : Nat := 3

/-- Columns of a form, and print positions of a page (00_scope 0.5). -/
def columns : Nat := 160

end Sys2Proof.Config
end

