-- ==== Sys2Proof/Machine/State.lean ====
section
/-! DEFINITION. The state of the part: everything the spec gives its ten blocks, as plain data, and its
value right after power-on. INVENTORY.md lists each field with its rule. -/

namespace Sys2Proof.Machine

/-! ### Path unit (07_the_memory_path) -/

/-- What a window is for, and for which channel (R122). -/
inductive Role where
  | setup
  | control (ch : ChannelId)
  | pages (ch : ChannelId)
  | tape (ch : ChannelId)
  deriving DecidableEq, Repr

/-- An entry of the window table; its length follows from its role (R122). -/
structure Window where
  base : Addr
  role : Role
  deriving DecidableEq, Repr

/-- The shadow store: the valid shadow bytes, addresses strictly rising (R124, log entry 7). The
high byte of word a has address 2a, its low byte 2a + 1. -/
abbrev Memory := List Host.Cell

/-- Who asks for fetches (R130). `abandoned` marks the fetch in progress of an operation that a host
bus reset has abandoned: its answer is discarded (R126, R136). -/
inductive Requester where
  | operation (ch : ChannelId)
  | setup
  | abandoned (ch : ChannelId)
  deriving DecidableEq, Repr

/-- Where in the requester's record a fetched word goes (R129). -/
inductive Dest where
  | lineLength
  | page (w : Nat)
  | tape (w : Nat)
  | record (w : Nat)
  deriving DecidableEq, Repr

/-- A word on a list of words to fetch: its address and its place in the record (R28, R45, R138). -/
structure FetchWord where
  addr : Addr
  dest : Dest
  deriving DecidableEq, Repr

/-- An entry of the own-cycle queue (R129). -/
inductive OwnEntry where
  | fetch (req : Requester) (w : FetchWord)
  | tally (ch : ChannelId) (addr : Addr) (value : Word)
  deriving DecidableEq, Repr

/-- What the host bus gets back from its last cycle: the model's output register (log entry 19). -/
structure HostReply where
  read : Option ReadAnswer
  write : Option WriteAnswer
  deriving DecidableEq, Repr

/-! ### Records of words taken from the shadow and by fetches (R24, R43, R138) -/

/-- A word of a taken record: each byte present or absent, with its damaged mark. -/
structure TakenWord where
  hi : Option Byte
  lo : Option Byte
  hiDamaged : Bool
  loDamaged : Bool
  deriving DecidableEq, Repr

/-- The taken-line record (02, 2.1). The page is the operation's VP. Page word w holds positions
2w + 1 (high byte) and 2w + 2; the length is absent while its state is AWAITING. -/
structure LineRec where
  length : Option Nat
  lengthDamaged : Bool
  lengthWord : TakenWord
  words : List TakenWord
  toFetch : List FetchWord
  outstanding : Nat
  deriving DecidableEq, Repr

/-- The tape-taking record (R43): words 0 to 192 of the TAPE window; the length L once KNOWN. -/
structure TapeRec where
  length : Option Nat
  words : List TakenWord
  toFetch : List FetchWord
  outstanding : Nat
  deriving DecidableEq, Repr

/-- The record of an apply that waits for fetches (R138): words 0 to 17 of the setup window. -/
structure ApplyRec where
  words : List TakenWord
  toFetch : List FetchWord
  outstanding : Nat
  deriving DecidableEq, Repr

/-! ### Forms, tapes and sheets (03, 04, 05, 06) -/

/-- A glyph of the drum, 0 to 63. -/
abbrev Glyph := Fin 64

/-- A strike of a line: a column and a glyph (R37). -/
structure Strike where
  col : Nat
  glyph : Glyph
  deriving DecidableEq, Repr

/-- A struck cell: its column, its strikes in the order struck, and its sheet coordinates once its
sheet has entered the queue (R62). -/
structure PrintCell where
  col : Nat
  strikes : List Glyph
  xy : Option (Nat × Nat)
  deriving DecidableEq, Repr

/-- A form line that holds cells, in ascending column (R63). -/
structure FormLine where
  index : Nat
  cells : List PrintCell
  deriving DecidableEq, Repr

/-- A form: the tape length at its opening, its first line, its lines in ascending index (R63). -/
structure Form where
  tapeLength : Nat
  firstLine : Nat
  lines : List FormLine
  deriving DecidableEq, Repr

/-- A format tape: one 12-bit mask per form line; the tape length L is how many there are (R41). -/
structure Tape where
  masks : List (BitVec 12)
  deriving DecidableEq, Repr

/-- What a channel with a tape loaded holds: the tape, the form position and the open form, which
exist together (R41, 04 section 4.2). -/
structure Paper where
  tape : Tape
  pos : Nat
  form : Form
  deriving DecidableEq, Repr

/-- The part of a layout that a sheet's snapshot copies (R82, R86); `twoUp` is slot count 2. -/
structure Geometry where
  px : Nat
  py : Nat
  scale : Nat
  twoUp : Bool
  ox0 : Nat
  oy0 : Nat
  ox1 : Nat
  oy1 : Nat
  width : Nat
  height : Nat
  deriving DecidableEq, Repr

/-- A channel's layout (R82). -/
structure Layout where
  geo : Geometry
  runOut : Nat
  deriving DecidableEq, Repr

/-- A sheet record of the queue (R98). Its state is that of its place and of the link (log entry 15). -/
structure Sheet where
  number : Word
  channel : ChannelId
  geo : Geometry
  slot0 : Form
  slot1 : Option Form
  clipCount : Nat
  attempts : Nat
  deriving DecidableEq, Repr

/-! ### Channel controllers (01) -/

/-- How command-word writes make GOs (R3 to R6). -/
inductive GoMode where
  | strobe | edge | sampled
  deriving DecidableEq, Repr

/-- The unprintable policy (R33 to R35). -/
inductive Policy where
  | blank | substitute | check
  deriving DecidableEq, Repr

/-- The kinds of operation (R11). -/
inductive OpKind where
  | loadTape | printSpace | printSkip | spaceOnly | skipOnly | eject
  deriving DecidableEq, Repr

/-- How an operation ends (R11, R13). -/
inductive OpOutcome where
  | normal | check | formStop | tapeRefused
  deriving DecidableEq, Repr

/-- The stage of an operation, with what the stage holds (R12): a record being taken, the strike
list of a line that waits for cells, or the new tape a LOAD-TAPE holds until it is installed. -/
inductive Stage where
  | takingLine (r : LineRec)
  | takingTape (r : TapeRec)
  | placing (strikes : List Strike)
  | moving (held : Option Tape)
  deriving DecidableEq, Repr

/-- The operation record (R11). -/
structure Op where
  kind : OpKind
  vp : Bool
  count : Nat
  ie : Bool
  stage : Stage
  linePlaced : Bool
  deriving DecidableEq, Repr

/-- The channel state (R2); BUSY holds the one operation in flight. -/
inductive ChState where
  | offline
  | idle
  | busy (op : Op)
  | stopped
  | halted
  deriving DecidableEq, Repr

/-- Everything a channel owns in its controller, its line taker, its carriage unit, the form store,
the placement unit and the link controller. -/
structure Channel where
  state : ChState
  goMode : GoMode
  merged : Word
  prevMerged : Word
  prevSample : Word
  check : Bool
  formStop : Bool
  reject : Bool
  done : Bool
  pendStop : Bool
  pendEject : Bool
  tally : Word
  stall : Nat
  runOut : Nat
  runOutDue : Bool
  request : Bool
  policy : Policy
  substitute : Glyph
  shift : Int
  unprintable : Nat
  damaged : Nat
  shiftLost : Nat
  lastDropped : Option Int
  paper : Option Paper
  overflow : Bool
  ch9 : Bool
  pendSheet : Option Form
  droppedStrikes : Nat
  forcedBreaks : Nat
  layout : Layout
  clipped : Nat
  sheetsAccepted : Nat
  deriving DecidableEq, Repr

/-- The four channels. -/
structure Channels where
  ch0 : Channel
  ch1 : Channel
  ch2 : Channel
  ch3 : Channel
  deriving DecidableEq, Repr

/-! ### Sheet queue, link, setup unit and panel (06, 08, 09) -/

/-- A claimant of a free queue place (R100). -/
inductive Claim where
  | move (ch : ChannelId)
  | runOut (ch : ChannelId)
  deriving DecidableEq, Repr

/-- The link states (R102). -/
inductive LinkState where
  | down | training | idleUp | sending | awaiting | backoff | waitOperator
  deriving DecidableEq, Repr

/-- The receiver (R103): HUNTING, with whether the byte before was a preamble byte, or IN-FRAME with
the bytes taken since the start byte. -/
inductive Receiver where
  | hunting (afterPreamble : Bool)
  | inFrame (bytes : List Byte)
  deriving DecidableEq, Repr

/-- The link controller (R102, R119). -/
structure LinkCtl where
  state : LinkState
  rowsSent : Nat
  silence : Nat
  pulses : Nat
  replyTimeout : Nat
  replyTimer : Nat
  backoffTimer : Nat
  receiver : Receiver
  accepted : Nat
  rejected : Nat
  badFrames : Nat
  ignoredReplies : Nat
  losses : Nat
  deriving DecidableEq, Repr

/-- The result codes (R142). -/
inductive ResultCode where
  | none | done | pending | badKind | badValue | overlap | busy
  deriving DecidableEq, Repr

/-- An entry of the translation table (R32). -/
inductive TransEntry where
  | glyph (g : Glyph)
  | blank
  | unprintable
  deriving DecidableEq, Repr

/-- The setup unit (R137). -/
structure SetupUnit where
  result : ResultCode
  answersPresent : Bool
  answers : List Word
  apply : Option ApplyRec
  translation : List TransEntry
  glyphCodes : List Word
  deriving DecidableEq, Repr

/-- The recognized state of a switch (R154). -/
inductive Contact where
  | opened | closed
  deriving DecidableEq, Repr

/-- The operator panel (R154, R155). -/
structure Panel where
  stopSwitch : Contact
  startSwitch : Contact
  ejectSwitch : Contact
  selector : ChannelId
  deriving DecidableEq, Repr

/-- The state of the part. -/
structure State where
  windows : List Window
  shadow : Memory
  ownQueue : List OwnEntry
  ownCycle : Option OwnEntry
  placeWait : List Requester
  passedOver : Nat
  presented : Option BusCycle
  hostReply : Option HostReply
  memDrive : Option BusCycle
  chans : Channels
  freeCells : Nat
  cellWait : List ChannelId
  queue : List Sheet
  sheetCounter : Word
  roomWait : List Claim
  link : LinkCtl
  linkSend : List Byte
  setup : SetupUnit
  panel : Panel
  pending : List Instr
  deriving DecidableEq, Repr

/-- The reasons a step could fault. There are none: the spec stops the part nowhere, and every
condition it describes is a state, a flag, a counter or a result code. -/
inductive Fault where
  deriving DecidableEq, Repr

/-- The reasons a step could be refused. -/
inductive Refusal where
  /-- Raised by an arm of `exec` whose row has no meaning yet; no arm uses it. Safe: the machine
  stops where the part goes on. -/
  | notModelled (mnemonic : String)
  deriving DecidableEq, Repr

/-- The layout of a channel at power-on (R82). -/
def Layout.powerOn : Layout :=
  { geo := { px := 60, py := 100, scale := 4096, twoUp := false, ox0 := 0, oy0 := 0, ox1 := 0,
             oy1 := 0, width := 6600, height := 5100 },
    runOut := 0 }

/-- A channel at power-on (01 section 1.11, R39, R41, R64, R81, R82, R91, R111). The policy, the
substitute glyph and the shift are the model's choice (log entry 21). -/
def Channel.powerOn : Channel :=
  { state := .offline, goMode := .strobe, merged := 0, prevMerged := 0, prevSample := 0,
    check := false, formStop := false, reject := false, done := false, pendStop := false,
    pendEject := false, tally := 0, stall := 0, runOut := 0, runOutDue := false, request := false,
    policy := .blank, substitute := 0, shift := 0, unprintable := 0, damaged := 0, shiftLost := 0,
    lastDropped := none, paper := none, overflow := false, ch9 := false, pendSheet := none,
    droppedStrikes := 0, forcedBreaks := 0, layout := Layout.powerOn, clipped := 0,
    sheetsAccepted := 0 }

/-- The link controller at power-on (R102, R119). -/
def LinkCtl.powerOn : LinkCtl :=
  { state := .down, rowsSent := 0, silence := 0, pulses := 0, replyTimeout := 20, replyTimer := 0,
    backoffTimer := 0, receiver := .hunting false, accepted := 0, rejected := 0, badFrames := 0,
    ignoredReplies := 0, losses := 0 }

/-- The setup unit at power-on (R137). -/
def SetupUnit.powerOn : SetupUnit :=
  { result := .none, answersPresent := false, answers := List.replicate 8 0, apply := none,
    translation := List.replicate 256 .unprintable,
    glyphCodes := (List.range 64).map (BitVec.ofNat 16) }

/-- The panel at power-on (R154, R155). -/
def Panel.powerOn : Panel :=
  { stopSwitch := .closed, startSwitch := .closed, ejectSwitch := .closed, selector := .c0 }

/-- The part right after power-on, with straps reading v = 0 (R2, R60, R97, R102, R122, R124, R136,
R137; log entry 1): the setup window base is 65,536 × 1 − 32. -/
def State.reset : State :=
  { windows := [⟨65504, .setup⟩], shadow := [], ownQueue := [], ownCycle := none, placeWait := [],
    passedOver := 0, presented := none, hostReply := none, memDrive := none,
    chans := ⟨Channel.powerOn, Channel.powerOn, Channel.powerOn, Channel.powerOn⟩,
    freeCells := Config.poolCells, cellWait := [], queue := [], sheetCounter := 0, roomWait := [],
    link := LinkCtl.powerOn, linkSend := [], setup := SetupUnit.powerOn, panel := Panel.powerOn,
    pending := [] }

end Sys2Proof.Machine
end

