-- ==== Sys2Proof/Machine/Operands.lean ====
section
/-! DEFINITION. Operand forms: bytes and parity on the buses, the fields of a command word (10.1),
window addresses (R122), the status of a word taken byte by byte. -/

namespace Sys2Proof

/-! ### Bytes, words and parity -/

/-- Bits 15 to 8 of a word. -/
def hiByte (w : Word) : Byte := w.extractLsb' 8 8

/-- Bits 7 to 0 of a word. -/
def loByte (w : Word) : Byte := w.extractLsb' 0 8

/-- The word of a high byte and a low byte. -/
def wordOf (hi lo : Byte) : Word := hi ++ lo

/-- The parity bit that gives a byte odd parity over its nine bits (00_scope 0.2). -/
def oddParityBit (b : Byte) : Bool :=
  (List.range 8).foldl (fun acc i => acc ^^ b.getLsbD i) true

/-- The byte carries good (odd) parity. -/
def BusByte.good (b : BusByte) : Bool := b.par == oddParityBit b.val

/-- A byte with freshly generated odd parity (R128, R131). -/
def freshByte (v : Byte) : BusByte := ⟨v, oddParityBit v⟩

/-- A byte returned with bad parity (R128). -/
def badByte (v : Byte) : BusByte := ⟨v, !oddParityBit v⟩

/-- A word with fresh parity in both bytes (R131). -/
def freshWord (w : Word) : BusWord := ⟨freshByte (hiByte w), freshByte (loByte w)⟩

/-- The value of a bus word, whatever its parity. -/
def BusWord.value (w : BusWord) : Word := wordOf w.hi.val w.lo.val

/-- The byte as the part takes it: its value when the parity is good, otherwise invalid (R125, R126). -/
def BusByte.taken (b : BusByte) : Option Byte := if b.good then some b.val else none

/-- A byte of a forced read: fresh parity where memory's byte was good, bad parity where it was bad
(R128). -/
def forceByte (mem : BusByte) (v : Byte) : BusByte := if mem.good then freshByte v else badByte v

/-- The bytes named by a write's enables replace those of a word; the other is kept (R3, R20). -/
def mergeBytes (w : BusWrite) (old : Word) : Word :=
  wordOf (if w.en.hi then w.data.hi.val else hiByte old)
    (if w.en.lo then w.data.lo.val else loByte old)

/-- The bytes of a word as memory's answer delivers them (R126). -/
def ReadAnswer.taken : ReadAnswer → Option Byte × Option Byte
  | .data w => (w.hi.taken, w.lo.taken)
  | .noResponse => (none, none)

/-- The channel's number, 0 to 3. -/
def ChannelId.toNat : ChannelId → Nat
  | .c0 => 0
  | .c1 => 1
  | .c2 => 2
  | .c3 => 3

end Sys2Proof

namespace Sys2Proof.Machine

/-! ### Saturating counters -/

/-- A saturating 16-bit counter raised by n (00_scope 0.5). -/
def satAdd (count n : Nat) : Nat := min (count + n) Config.counterMax

/-! ### Channels by number -/

/-- The channel of a number 0 to 3. -/
def channelOf : Nat → Option ChannelId
  | 0 => some .c0
  | 1 => some .c1
  | 2 => some .c2
  | 3 => some .c3
  | _ => none

/-- The channels in the order of their numbers. -/
def allChannels : List ChannelId := [.c0, .c1, .c2, .c3]

/-! ### The command word (10.1, R7, R161) -/

/-- The GO bit of a command value. -/
def goBit (w : Word) : Bool := w.getLsbD 15

/-- What a GO asks for, by the order of tests of R8 to R10. -/
inductive GoCommand where
  | clear
  | loadTape (ie : Bool)
  | move (kind : OpKind) (vp : Bool) (count : Nat) (ie : Bool)
  deriving DecidableEq, Repr

/-- The operation kind of bits 7 and 6. -/
def opKindOf (w : Word) : OpKind :=
  match w.getLsbD 7, w.getLsbD 6 with
  | false, false => .printSpace
  | false, true => .printSkip
  | true, false => .spaceOnly
  | true, true => .skipOnly

/-- The kind moves by a skip. -/
def OpKind.isSkip : OpKind → Bool
  | .printSkip => true
  | .skipOnly => true
  | _ => false

/-- The kind prints a line. -/
def OpKind.isPrint : OpKind → Bool
  | .printSpace => true
  | .printSkip => true
  | _ => false

/-- The count: two bits for the space kinds, four for the skip kinds (R7, R161). -/
def countOf (kind : OpKind) (w : Word) : Nat :=
  if kind.isSkip then (w.extractLsb' 0 4).toNat else (w.extractLsb' 0 2).toNat

/-- The decoding of a command value at a GO; bits 10 to 8 and 5 to 4 are ignored (R7, R161). -/
def decodeGo (w : Word) : GoCommand :=
  if w.getLsbD 11 then .clear
  else if w.getLsbD 12 then .loadTape (w.getLsbD 13)
  else .move (opKindOf w) (w.getLsbD 14) (countOf (opKindOf w) w) (w.getLsbD 13)

/-- Who started an operation of the kind: PANEL for EJECT, HOST for the others (R11). -/
def OpKind.fromPanel : OpKind → Bool
  | .eject => true
  | _ => false

/-! ### Windows (R122) -/

/-- The length of a window, by its role. -/
def Role.length : Role → Nat
  | .setup => 20
  | .control _ => 4
  | .pages _ => 160
  | .tape _ => 193

/-- The channel of a window; none for SETUP. -/
def Role.channel : Role → Option ChannelId
  | .setup => none
  | .control ch => some ch
  | .pages ch => some ch
  | .tape ch => some ch

/-- The window covers the address: base to base plus length less 1. -/
def Window.covers (w : Window) (a : Addr) : Bool :=
  decide (w.base.toNat ≤ a.toNat) && decide (a.toNat < w.base.toNat + w.role.length)

/-- Two windows share an address (R123). -/
def Window.overlaps (v w : Window) : Bool :=
  decide (v.base.toNat < w.base.toNat + w.role.length) &&
    decide (w.base.toNat < v.base.toNat + v.role.length)

/-- The base of the setup window for strap value v: 65,536 × (v + 1) − 32 (R122). -/
def setupBase (straps : BitVec 4) : Addr := BitVec.ofNat 20 (65536 * (straps.toNat + 1) - 32)

/-! ### Words taken byte by byte (R24, R26, R29, R43, R46, R139) -/

/-- A word of which nothing has been taken. -/
def TakenWord.absent : TakenWord := ⟨none, none, false, false⟩

/-- Both bytes are present. -/
def TakenWord.complete (t : TakenWord) : Bool := t.hi.isSome && t.lo.isSome

/-- A fetch brought a byte back invalid. -/
def TakenWord.damaged (t : TakenWord) : Bool := t.hiDamaged || t.loDamaged

/-- The word's value, when both bytes are present. -/
def TakenWord.value (t : TakenWord) : Option Word :=
  match t.hi, t.lo with
  | some h, some l => some (wordOf h l)
  | _, _ => none

/-- A fetch's answer fills the bytes that are needed and lacked; a lacked byte delivered invalid
stays absent and is marked damaged. A byte copied before keeps its value. -/
def TakenWord.fill (t : TakenWord) (needHi needLo : Bool) (hi lo : Option Byte) : TakenWord :=
  { hi := if needHi && t.hi.isNone then hi else t.hi
    lo := if needLo && t.lo.isNone then lo else t.lo
    hiDamaged := t.hiDamaged || (needHi && t.hi.isNone && hi.isNone)
    loDamaged := t.loDamaged || (needLo && t.lo.isNone && lo.isNone) }

end Sys2Proof.Machine
end

