-- ==== Sys2Proof/Machine/Flags.lean ====
section
/-! DEFINITION. The status byte and the conditions the status word shows (R16, 10.2). -/

namespace Sys2Proof.Machine

/-- An operation, host or panel, is in flight (R2, R11). -/
def ChState.isBusy : ChState → Bool
  | .busy _ => true
  | _ => false

/-- The channel is stalled: its stall counter is 300 or more (R21). -/
def Channel.stalled (c : Channel) : Bool := decide (Config.stallTicks ≤ c.stall)

/-- READY: IDLE, or BUSY and not stalled (R16). -/
def Channel.ready (c : Channel) : Bool :=
  match c.state with
  | .idle => true
  | .busy _ => !c.stalled
  | _ => false

/-- The status byte, bits 15 to 8 of the status word: READY, BUSY, CHECK, FORM-STOP, OVERFLOW, CH9,
REJECT, DONE from the most significant bit down (R16). -/
def Channel.statusByte (c : Channel) : Byte :=
  BitVec.ofBool c.ready ++ BitVec.ofBool c.state.isBusy ++ BitVec.ofBool c.check ++
    BitVec.ofBool c.formStop ++ BitVec.ofBool c.overflow ++ BitVec.ofBool c.ch9 ++
    BitVec.ofBool c.reject ++ BitVec.ofBool c.done

/-- The code of a result, as reads of setup word 19 return it (10.4). -/
def ResultCode.code : ResultCode → Word
  | .none => 0
  | .done => 1
  | .pending => 2
  | .badKind => 3
  | .badValue => 4
  | .overlap => 5
  | .busy => 7

/-- The answer word of a last dropped column: 0 for none, else the signed value (R164). -/
def lastDroppedWord : Option Int → Word
  | none => 0
  | some c => BitVec.ofInt 16 c

/-- What a record of an operation at rest waits for (R11, R12). -/
inductive Waiting where
  | fetches | cells | queueRoom
  deriving DecidableEq, Repr

/-- The wait that the operation record shows: between two events an operation is in flight only
because its stage waits (R12). -/
def Op.waiting (op : Op) : Waiting :=
  match op.stage with
  | .takingLine _ => .fetches
  | .takingTape _ => .fetches
  | .placing _ => .cells
  | .moving _ => .queueRoom

/-- The states of a sheet record (R98). -/
inductive SheetState where
  | queued | sending | awaiting | backoff | held
  deriving DecidableEq, Repr

/-- The head sheet's state follows the link state (R98, R102). -/
def LinkState.headState : LinkState → SheetState
  | .sending => .sending
  | .awaiting => .awaiting
  | .backoff => .backoff
  | .waitOperator => .held
  | _ => .queued

/-- The state of the sheet at a place of the queue, 0 being the head (R98). -/
def State.sheetState (s : State) : Nat → SheetState
  | 0 => s.link.state.headState
  | _ + 1 => .queued

end Sys2Proof.Machine
end

