-- ==== Sys2Proof/Machine/Ops.lean ====
section
/-! DEFINITION. The named operations over the part's registers and stores that every chapter shares:
the channels, the window table, the shadow store, the own-cycle queue and its fetch places. -/

namespace Sys2Proof.Machine

/-! ### Channels -/

/-- The channel of a number. -/
def State.ch (s : State) : ChannelId → Channel
  | .c0 => s.chans.ch0
  | .c1 => s.chans.ch1
  | .c2 => s.chans.ch2
  | .c3 => s.chans.ch3

/-- One channel replaced. -/
def Channels.set (cs : Channels) (i : ChannelId) (c : Channel) : Channels :=
  match i with
  | .c0 => { cs with ch0 := c }
  | .c1 => { cs with ch1 := c }
  | .c2 => { cs with ch2 := c }
  | .c3 => { cs with ch3 := c }

/-- One channel replaced, everything else kept. -/
def State.setCh (s : State) (i : ChannelId) (c : Channel) : State :=
  { s with chans := s.chans.set i c }

/-- One channel changed by f. -/
def State.modCh (s : State) (i : ChannelId) (f : Channel → Channel) : State :=
  s.setCh i (f (s.ch i))

/-- The operation in flight on a channel (R2). -/
def ChState.op? : ChState → Option Op
  | .busy op => some op
  | _ => none

/-- The stage of the operation in flight replaced (R12); nothing in any other state. -/
def State.setStage (s : State) (i : ChannelId) (st : Stage) : State :=
  s.modCh i fun c =>
    match c.state with
    | .busy op => { c with state := .busy { op with stage := st } }
    | _ => c

/-! ### The window table (R122) -/

/-- The window an address lies in, if any. -/
def State.findWindow (s : State) (a : Addr) : Option Window :=
  s.windows.find? (fun w => w.covers a)

/-- The role of the window an address lies in, and its word offset there (R121). -/
def State.lookup (s : State) (a : Addr) : Option (Role × Nat) :=
  (s.findWindow a).map fun w => (w.role, a.toNat - w.base.toNat)

/-- The address of a word of the window with a role: its base plus the offset. A channel without
that window has no such word; the operations ask only for windows their channel holds. -/
def State.wordAddr (s : State) (r : Role) (offset : Nat) : Addr :=
  match s.windows.find? (fun w => w.role = r) with
  | some w => w.base + BitVec.ofNat 20 offset
  | none => BitVec.ofNat 20 offset

/-! ### The shadow store (R124, R125) -/

/-- The byte address of a word's high byte in the shadow. -/
def hiKey (a : Addr) : Nat := 2 * a.toNat

/-- The byte address of a word's low byte in the shadow. -/
def loKey (a : Addr) : Nat := 2 * a.toNat + 1

/-- The canonical form: addresses strictly rising, so each listed once. -/
abbrev Memory.wf (m : Memory) : Prop := m.Pairwise (fun x y => x.1 < y.1)

/-- The shadow byte at an address: its value when it is valid. -/
def Memory.read : Memory → Nat → Option Byte
  | [], _ => none
  | (k, v) :: rest, a => if k = a then some v else Memory.read rest a

/-- A shadow byte takes a value and is marked valid. -/
def Memory.write : Memory → Nat → Byte → Memory
  | [], a, b => [(a, b)]
  | (k, v) :: rest, a, b =>
    if a < k then (a, b) :: (k, v) :: rest
    else if a = k then (a, b) :: rest
    else (k, v) :: Memory.write rest a b

/-- A shadow byte is marked invalid. -/
def Memory.erase (m : Memory) (a : Nat) : Memory := m.filter (fun c => decide (c.1 ≠ a))

/-- Every shadow byte of n words from a base is marked invalid, or discarded. -/
def Memory.eraseWords (m : Memory) (base : Addr) (n : Nat) : Memory :=
  m.filter (fun c => !(decide (2 * base.toNat ≤ c.1) && decide (c.1 < 2 * (base.toNat + n))))

/-- A shadow byte set to a byte as taken: its value and valid, or invalid. -/
def Memory.put (m : Memory) (a : Nat) : Option Byte → Memory
  | some b => m.write a b
  | none => m.erase a

/-- A host write's effect on the shadow of its word: each named byte takes the written value when
memory accepted the write and the byte's parity was good, and is invalid otherwise; a byte not
named is kept (R125). -/
def shadowHostWrite (w : BusWrite) (ans : WriteAnswer) (m : Memory) : Memory :=
  let byte (b : BusByte) : Option Byte :=
    match ans with
    | .accepted => b.taken
    | .noResponse => none
  let m1 := if w.en.hi then m.put (hiKey w.addr) (byte w.data.hi) else m
  if w.en.lo then m1.put (loKey w.addr) (byte w.data.lo) else m1

/-- The shadow of a word takes both bytes of an own cycle's outcome (R126, R131). -/
def Memory.putWord (m : Memory) (a : Addr) (hi lo : Option Byte) : Memory :=
  (m.put (hiKey a) hi).put (loKey a) lo

/-- The shadow after an own cycle at an address: changed only where the address lies in a window at
that moment (R126, R131). -/
def State.shadowOwn (s : State) (a : Addr) (hi lo : Option Byte) : State :=
  if (s.findWindow a).isSome then { s with shadow := s.shadow.putWord a hi lo } else s

/-- A word copied from the shadow: the valid bytes (R24, R43, R138). -/
def State.copyWord (s : State) (a : Addr) : TakenWord :=
  { hi := s.shadow.read (hiKey a), lo := s.shadow.read (loKey a),
    hiDamaged := false, loDamaged := false }

/-! ### The own-cycle queue (R129 to R131) -/

/-- The entry is a FETCH. -/
def OwnEntry.isFetch : OwnEntry → Bool
  | .fetch _ _ => true
  | .tally _ _ _ => false

/-- The entry is a FETCH of the address. -/
def OwnEntry.fetches (a : Addr) : OwnEntry → Bool
  | .fetch _ w => decide (w.addr = a)
  | .tally _ _ _ => false

/-- The entry is the channel's TALLY-WRITE. -/
def OwnEntry.isTallyOf (ch : ChannelId) : OwnEntry → Bool
  | .fetch _ _ => false
  | .tally c _ _ => decide (c = ch)

/-- The memory-side cycle of an own cycle (R129, R131). -/
def OwnEntry.cycle : OwnEntry → BusCycle
  | .fetch _ w => .read w.addr
  | .tally _ a v => .write ⟨a, ⟨true, true⟩, freshWord v⟩

/-- Free fetch places: up to 12 entries of the queue may be FETCHes (R129). -/
def State.freeFetchPlaces (s : State) : Nat :=
  Config.fetchPlaces - s.ownQueue.countP OwnEntry.isFetch

/-- A TALLY-WRITE of the channel's tally is requested: the waiting entry takes the new value and the
current address in place, or a new entry joins the tail (R19, R131). -/
def requestTally (ch : ChannelId) (s : State) : State :=
  let entry := OwnEntry.tally ch (s.wordAddr (.control ch) 3) (s.ch ch).tally
  if s.ownQueue.any (OwnEntry.isTallyOf ch) then
    { s with ownQueue := s.ownQueue.map fun e => if e.isTallyOf ch then entry else e }
  else { s with ownQueue := s.ownQueue ++ [entry] }

/-- The channel's waiting TALLY-WRITE is removed; when it was the head, the passed-over count starts
again (R20, R133). -/
def removeTally (ch : ChannelId) (s : State) : State :=
  { s with
    ownQueue := s.ownQueue.filter fun e => !e.isTallyOf ch
    passedOver := if (s.ownQueue.head?.map (OwnEntry.isTallyOf ch)).getD false then 0
      else s.passedOver }

/-- The channel's waiting TALLY-WRITE, if any, takes the internal tally and keeps its place and its
address (R20). -/
def updateTally (ch : ChannelId) (s : State) : State :=
  { s with ownQueue := s.ownQueue.map fun e =>
      match e with
      | .tally c a v => if c = ch then .tally c a (s.ch ch).tally else .tally c a v
      | .fetch r w => .fetch r w }

/-! ### Fetch places (R28, R130) -/

/-- The words a requester has listed and not yet given to the queue. -/
def State.listed (s : State) : Requester → List FetchWord
  | .operation ch =>
    match (s.ch ch).state with
    | .busy op =>
      match op.stage with
      | .takingLine r => r.toFetch
      | .takingTape r => r.toFetch
      | _ => []
    | _ => []
  | .setup =>
    match s.setup.apply with
    | some r => r.toFetch
    | none => []
  | .abandoned _ => []

/-- The requester's record after its first listed word has been given: the word leaves the list and
the outstanding count rises by 1 (R28). -/
def State.giveListed (s : State) : Requester → State
  | .operation ch =>
    match (s.ch ch).state with
    | .busy op =>
      match op.stage with
      | .takingLine r =>
        s.setStage ch (.takingLine { r with toFetch := r.toFetch.tail,
                                            outstanding := r.outstanding + 1 })
      | .takingTape r =>
        s.setStage ch (.takingTape { r with toFetch := r.toFetch.tail,
                                            outstanding := r.outstanding + 1 })
      | _ => s
    | _ => s
  | .setup =>
    match s.setup.apply with
    | some r =>
      { s with setup := { s.setup with
          apply := some { r with toFetch := r.toFetch.tail, outstanding := r.outstanding + 1 } } }
    | none => s
  | .abandoned _ => s

/-- One fetch place is granted to the head of the place-wait list: its next listed word becomes a
FETCH entry at the tail of the queue, and the requester moves to the tail of the list while it has
words listed (R130). -/
def grantPlace (s : State) : State :=
  match s.placeWait with
  | [] => s
  | req :: rest =>
    match s.listed req with
    | [] => { s with placeWait := rest }
    | w :: more =>
      let s1 := s.giveListed req
      { s1 with
        ownQueue := s1.ownQueue ++ [.fetch req w]
        placeWait := if more.isEmpty then rest else rest ++ [req] }

/-- Places granted one after another (R130). -/
def grantPlaces : Nat → State → State
  | 0, s => s
  | n + 1, s => grantPlaces n (grantPlace s)

/-- A requester with words listed asks for places: with the place-wait list empty it is granted free
places at once, one for each word in list order, and joins the list with what remains; with others
waiting it joins the tail (R130). -/
def askPlaces (req : Requester) (s : State) : State :=
  if (s.listed req).isEmpty || s.placeWait.contains req then s
  else if s.placeWait.isEmpty then
    grantPlaces s.freeFetchPlaces { s with placeWait := [req] }
  else { s with placeWait := s.placeWait ++ [req] }

end Sys2Proof.Machine
end

