-- ==== Sys2Proof/Machine/Frames.lean ====
section
/-! DEFINITION. The frames of the print link: layouts, CRC (10.6, R165, R166), and the frames of a
sheet's emission (R107 to R109). -/

namespace Sys2Proof.Machine

/-- One shift of the CRC register (R166). -/
def crcShift (r : Word) : Word := if r.getLsbD 15 then (r <<< 1) ^^^ 0x1021 else r <<< 1

/-- The CRC register after one byte (R166). -/
def crcByte (r : Word) (b : Byte) : Word :=
  (List.range 8).foldl (fun acc _ => crcShift acc) (r ^^^ (b ++ (0 : Byte)))

/-- The CRC of a run of bytes: from 0xFFFF, with no final inversion (R166). -/
def crc16 (bytes : List Byte) : Word := bytes.foldl crcByte 0xFFFF

/-- The preamble byte. -/
def preambleByte : Byte := 0x55

/-- The start byte. -/
def startByte : Byte := 0xC3

/-- A 16-bit field of a frame, high byte first (R165). -/
def fieldBytes (w : Word) : List Byte := [hiByte w, loByte w]

/-- A 16-bit field of a frame from a number. -/
def fieldOfNat (n : Nat) : List Byte := fieldBytes (BitVec.ofNat 16 n)

/-- The bytes the CRC covers: kind, length, payload (R166). -/
def frameBody (kind : Byte) (payload : List Byte) : List Byte :=
  kind :: (fieldOfNat payload.length ++ payload)

/-- A whole frame: four preamble bytes, the start byte, the body and the CRC (R165). -/
def frameBytes (kind : Byte) (payload : List Byte) : List Byte :=
  List.replicate 4 preambleByte ++ [startByte] ++ frameBody kind payload ++
    fieldBytes (crc16 (frameBody kind payload))

/-- The kinds of frame the printer may send (R165). -/
inductive ReplyKind where
  | pulse | accept | busy | reject
  deriving DecidableEq, Repr

/-- The kind code of a printer frame (10.6). -/
def ReplyKind.code : ReplyKind → Byte
  | .pulse => 0x20
  | .accept => 0x21
  | .busy => 0x22
  | .reject => 0x23

/-- The kind a code names; the part's own kinds and every other code name none (R103, R165). -/
def replyKindOf (b : Byte) : Option ReplyKind :=
  if b = 0x20 then some .pulse
  else if b = 0x21 then some .accept
  else if b = 0x22 then some .busy
  else if b = 0x23 then some .reject
  else none

/-- The payload length a printer frame's kind requires (R165). -/
def ReplyKind.length : ReplyKind → Nat
  | .pulse => 0
  | .accept => 2
  | .busy => 2
  | .reject => 3

/-! ### The frames of an emission -/

/-- The cells of a form. -/
def Form.cellCount (f : Form) : Nat := (f.lines.map fun l => l.cells.length).sum

/-- The cells of a form that may be absent. -/
def formCells : Option Form → Nat
  | some f => f.cellCount
  | none => 0

/-- The cells a sheet holds in its slots (R61). -/
def Sheet.cellCount (sh : Sheet) : Nat := sh.slot0.cellCount + formCells sh.slot1

/-- The form lines of a form that give ROW frames: those with at least one cell (R107). -/
def Form.rows (f : Form) : List FormLine := f.lines.filter fun l => !l.cells.isEmpty

/-- The rows of a sheet in sending order: slot 0, then slot 1 when present, each in ascending line
index (R107). -/
def Sheet.rows (sh : Sheet) : List FormLine :=
  sh.slot0.rows ++ (match sh.slot1 with
    | some f => f.rows
    | none => [])

/-- The x of a placed cell. -/
def PrintCell.x (c : PrintCell) : Nat := (c.xy.map Prod.fst).getD 0

/-- The y of a placed cell. -/
def PrintCell.y (c : PrintCell) : Nat := (c.xy.map Prod.snd).getD 0

/-- The y of a form line: that of its cells, which share it (R87). -/
def FormLine.y (l : FormLine) : Nat := (l.cells.head?.map PrintCell.y).getD 0

/-- The SHEET-OPEN frame: sheet number, channel, W, H, slot count (R107, R165). -/
def sheetOpenFrame (sh : Sheet) : List Byte :=
  frameBytes 0x10 (fieldBytes sh.number ++ [BitVec.ofNat 8 sh.channel.toNat] ++
    fieldOfNat sh.geo.width ++ fieldOfNat sh.geo.height ++ [if sh.geo.twoUp then 2 else 1])

/-- The code sent for a glyph: its entry of the glyph code table (R148). -/
def glyphCode (codes : List Word) (g : Glyph) : Word := codes.getD g.val 0

/-- A cell of a ROW: x, strike count, one glyph code for each strike in the order struck (R108). -/
def cellBytes (codes : List Word) (c : PrintCell) : List Byte :=
  fieldOfNat c.x ++ [BitVec.ofNat 8 c.strikes.length] ++
    (c.strikes.map fun g => fieldBytes (glyphCode codes g)).flatten

/-- A ROW frame: sheet number, y, cell count, the cells in ascending column (R108, R165). -/
def rowFrame (codes : List Word) (sh : Sheet) (l : FormLine) : List Byte :=
  frameBytes 0x11 (fieldBytes sh.number ++ fieldOfNat l.y ++ [BitVec.ofNat 8 l.cells.length] ++
    (l.cells.map (cellBytes codes)).flatten)

/-- The SHEET-END frame: sheet number, cells sent, clip count (R107, R109, R165). The cells sent are
the total of the rows' cell counts. -/
def sheetEndFrame (sh : Sheet) : List Byte :=
  frameBytes 0x12 (fieldBytes sh.number ++
    fieldOfNat (sh.rows.map fun l => l.cells.length).sum ++ fieldOfNat sh.clipCount)

end Sys2Proof.Machine
end

