-- ==== Sys2Proof/Machine/Placement.lean ====
section
/-! DEFINITION. Sheet placement: the coordinates of a cell and clipping (R87 to R90). -/

namespace Sys2Proof.Machine

/-- The scaled distance of n columns or lines of p dots: n × p × S by 4,096, rounded to the nearest
dot, a half going up; worked exactly (R87, R88). -/
def scaled (n p scale : Nat) : Nat := (n * p * scale + 2048) / 4096

/-- The x of a column in a slot (R87, R89). -/
def Geometry.cellX (g : Geometry) (slot1 : Bool) (col : Nat) : Nat :=
  (if slot1 then g.ox1 else g.ox0) + scaled col g.px g.scale

/-- The y of a form line in a slot (R87, R89). -/
def Geometry.cellY (g : Geometry) (slot1 : Bool) (line : Nat) : Nat :=
  (if slot1 then g.oy1 else g.oy0) + scaled line g.py g.scale

/-- A cell lies on the sheet: x below W and y below H (R90). -/
def Geometry.onSheet (g : Geometry) (slot1 : Bool) (line col : Nat) : Bool :=
  decide (g.cellX slot1 col < g.width) && decide (g.cellY slot1 line < g.height)

/-- A form line placed: clipped cells removed, the others given their coordinates (R85, R90). -/
def placeLine (g : Geometry) (slot1 : Bool) (l : FormLine) : FormLine :=
  { l with cells := (l.cells.filter fun c => g.onSheet slot1 l.index c.col).map fun c =>
      { c with xy := some (g.cellX slot1 c.col, g.cellY slot1 l.index) } }

/-- A form placed: a line all of whose cells are clipped is removed (R90). -/
def placeForm (g : Geometry) (slot1 : Bool) (f : Form) : Form :=
  { f with lines := (f.lines.map (placeLine g slot1)).filter fun l => !l.cells.isEmpty }

/-- The cells of a form that placement clips (R91). -/
def clippedCells (g : Geometry) (slot1 : Bool) (f : Form) : Nat :=
  f.cellCount - (placeForm g slot1 f).cellCount

end Sys2Proof.Machine
end

