-- ==== Sys2Proof/Machine/SheetQueue.lean ====
section
/-! DEFINITION. The sheet queue: entry with placement (R85, R99), and the start of the head sheet's
emission (R106). -/

namespace Sys2Proof.Machine

/-- The link enters IDLE-UP and looks at the head of the queue: idle when it is empty, held for the
operator when the head has used its attempts, otherwise the emission begins with SHEET-OPEN
(R106, R107). -/
def startSheet (s : State) : State :=
  match s.queue with
  | [] => { s with link := { s.link with state := .idleUp } }
  | sh :: _ =>
    if sh.attempts = Config.attemptLimit then
      { s with link := { s.link with state := .waitOperator } }
    else
      { s with link := { s.link with state := .sending, rowsSent := 0 }
               linkSend := sheetOpenFrame sh }

/-- A whole new emission of the head sheet begins (R115). -/
def resendSheet (s : State) : State :=
  match s.queue with
  | [] => s
  | sh :: _ =>
    { s with link := { s.link with state := .sending, rowsSent := 0 }
             linkSend := sheetOpenFrame sh }

/-- The sheet record of a channel's form or forms, placed with the channel's layout, with its number
and its clip count (R85, R86, R91, R98, R99). -/
def makeSheet (s : State) (ch : ChannelId) (f0 : Form) (f1 : Option Form) : Sheet :=
  let g := (s.ch ch).layout.geo
  { number := s.sheetCounter + 1
    channel := ch
    geo := g
    slot0 := placeForm g false f0
    slot1 := f1.map (placeForm g true)
    clipCount := satAdd 0 (clippedCells g false f0 + (f1.map (clippedCells g true)).getD 0)
    attempts := 0 }

/-- The cells clipped when a channel's form or forms are placed. -/
def entryClip (s : State) (ch : ChannelId) (f0 : Form) (f1 : Option Form) : Nat :=
  let g := (s.ch ch).layout.geo
  clippedCells g false f0 + (f1.map (clippedCells g true)).getD 0

/-- A sheet enters the queue: it is placed and numbered, joins the tail, its clipped cells are counted
and freed, and a link in IDLE-UP that finds the queue no longer empty begins its sending (R85, R91,
R92, R99, R106). The retries of the wait list are the caller's (log entry 10). -/
def enterQueue (ch : ChannelId) (f0 : Form) (f1 : Option Form) (s : State) : State :=
  let clip := entryClip s ch f0 f1
  let s1 := s.modCh ch fun c => { c with clipped := satAdd c.clipped clip }
  let s2 := { s1 with
    queue := s.queue ++ [makeSheet s ch f0 f1]
    sheetCounter := s.sheetCounter + 1
    freeCells := s.freeCells + clip }
  if s.link.state = .idleUp ∧ s.queue = [] then startSheet s2 else s2

end Sys2Proof.Machine
end

