-- ==== Sys2Proof/Machine/FormStore.lean ====
section
/-! DEFINITION. The form store: merging a line (R65 to R67), closing, releasing and breaking forms
(R71 to R74). -/

namespace Sys2Proof.Machine

/-! ### Merging -/

/-- The cells of a form line; none when the form has no line of that index. -/
def Form.cellsAt (f : Form) (line : Nat) : List PrintCell :=
  match f.lines.find? (fun l => l.index = line) with
  | some l => l.cells
  | none => []

/-- The line of cells holds a cell in the column. -/
def hasCell (cells : List PrintCell) (col : Nat) : Bool := cells.any fun c => c.col = col

/-- The new cells a strike list needs on a line of cells: one for each strike in a column that holds
no cell (R65). -/
def newCells (cells : List PrintCell) (strikes : List Strike) : Nat :=
  strikes.countP fun k => !hasCell cells k.col

/-- The strikes of a list that reach a cell already holding three strikes (R67). -/
def fullStrikes (cells : List PrintCell) (strikes : List Strike) : Nat :=
  strikes.countP fun k =>
    cells.any fun c => c.col = k.col && decide (Config.maxStrikes ≤ c.strikes.length)

/-- One strike taken against a line of cells: added to a cell with room, dropped at a full cell, or
made a new cell in column order (R66, R67). -/
def strikeCell : List PrintCell → Strike → List PrintCell
  | [], k => [⟨k.col, [k.glyph], none⟩]
  | c :: rest, k =>
    if k.col < c.col then ⟨k.col, [k.glyph], none⟩ :: c :: rest
    else if k.col = c.col then
      (if c.strikes.length < Config.maxStrikes then { c with strikes := c.strikes ++ [k.glyph] }
       else c) :: rest
    else c :: strikeCell rest k

/-- A strike list taken in order against a line of cells (R66). -/
def strikeLine (cells : List PrintCell) (strikes : List Strike) : List PrintCell :=
  strikes.foldl strikeCell cells

/-- The form's lines with the cells of one index set; a new line is put in line-index order (R66). -/
def setCells : List FormLine → Nat → List PrintCell → List FormLine
  | [], i, cells => [⟨i, cells⟩]
  | l :: rest, i, cells =>
    if i < l.index then ⟨i, cells⟩ :: l :: rest
    else if i = l.index then { l with cells := cells } :: rest
    else l :: setCells rest i cells

/-- A strike list merged into a form at a line; an empty list makes no form line (R65, R66). -/
def Form.merge (f : Form) (line : Nat) (strikes : List Strike) : Form :=
  if strikes.isEmpty then f
  else { f with lines := setCells f.lines line (strikeLine (f.cellsAt line) strikes) }

/-- The cells a channel's strike list needs now, against its open form at its position (R65). -/
def State.cellsNeeded (s : State) (ch : ChannelId) (strikes : List Strike) : Nat :=
  match (s.ch ch).paper with
  | some p => newCells (p.form.cellsAt p.pos) strikes
  | none => 0

/-- The line is merged into the channel's open form at its position: its cells leave the free count,
dropped strikes are counted, and the operation goes on to MOVING with its line placed
(R65 to R67, R12). -/
def mergeLine (ch : ChannelId) (strikes : List Strike) (s : State) : State :=
  match (s.ch ch).paper with
  | none => s
  | some p =>
    let cells := p.form.cellsAt p.pos
    let s1 := s.modCh ch fun c =>
      { c with
        paper := some { p with form := p.form.merge p.pos strikes }
        droppedStrikes := satAdd c.droppedStrikes (fullStrikes cells strikes)
        state := match c.state with
          | .busy op => .busy { op with linePlaced := true, stage := .moving none }
          | st => st }
    { s1 with freeCells := s.freeCells - newCells cells strikes }

/-! ### Closing, releasing, breaking -/

/-- A form opened at a line of a tape of length L (R63). -/
def Form.opened (tapeLength firstLine : Nat) : Form := ⟨tapeLength, firstLine, []⟩

/-- The tape length L of a loaded tape. -/
def Tape.length (t : Tape) : Nat := t.masks.length

/-- The channel's open form holds cells. -/
def Channel.holdsCells (c : Channel) : Bool :=
  match c.paper with
  | some p => decide (0 < p.form.cellCount)
  | none => false

/-- The cells of the channel's open form. -/
def Channel.openCells (c : Channel) : Nat :=
  match c.paper with
  | some p => p.form.cellCount
  | none => 0

/-- A close of the channel would make a sheet enter the queue: 1-up, or 2-up with a pending sheet
(R54, R71). -/
def Channel.closeNeedsPlace (c : Channel) : Bool := !c.layout.geo.twoUp || c.pendSheet.isSome

/-- The queue has a free place (R54). -/
def State.hasPlace (s : State) : Bool := decide (s.queue.length < Config.queuePlaces)

/-- A closed form is routed: to a sheet of its own in 1-up, to slot 0 of a new pending sheet, or to
slot 1 of the pending sheet, which then enters the queue (R71). -/
def routeClose (ch : ChannelId) (f : Form) (s : State) : State :=
  if (s.ch ch).layout.geo.twoUp then
    match (s.ch ch).pendSheet with
    | none => s.modCh ch fun c => { c with pendSheet := some f }
    | some f0 => enterQueue ch f0 (some f) (s.modCh ch fun c => { c with pendSheet := none })
  else enterQueue ch f none s

/-- The channel's pending sheet, if any, is sent into the queue with slot 1 absent (R73). -/
def releaseSheet (ch : ChannelId) (s : State) : State :=
  match (s.ch ch).pendSheet with
  | none => s
  | some f0 => enterQueue ch f0 none (s.modCh ch fun c => { c with pendSheet := none })

/-- A break: the open form is closed and routed, and a CONTINUED form opens at the same position
(R74). -/
def breakForm (ch : ChannelId) (s : State) : State :=
  match (s.ch ch).paper with
  | none => s
  | some p =>
    routeClose ch p.form
      (s.modCh ch fun c =>
        { c with paper := some { p with form := Form.opened p.tape.length p.pos } })

/-! ### Forced breaks (R75, R76) -/

/-- The channel with the largest value, the lowest number winning a tie; none when every value is
absent. -/
def mostOf (value : ChannelId → Option Nat) : Option ChannelId :=
  (allChannels.foldl (fun (best : Option (ChannelId × Nat)) ch =>
    match value ch, best with
    | none, b => b
    | some n, none => some (ch, n)
    | some n, some (b, m) => if m < n then some (ch, n) else some (b, m)) none).map Prod.fst

/-- The victim of a forced break: the waiting channel's open form when it holds cells, else the open
form holding the most cells; none when no open form holds cells (R76, step 1). -/
def victimOf (waiting : ChannelId) (s : State) : Option ChannelId :=
  if (s.ch waiting).holdsCells then some waiting
  else mostOf fun ch => if (s.ch ch).holdsCells then some (s.ch ch).openCells else none

/-- Step 1 of a forced break: the victim is broken and counted; a pending sheet that the break has
newly made is released at once (R76). -/
def breakVictim (victim : ChannelId) (s : State) : State :=
  let newPending := (s.ch victim).layout.geo.twoUp && (s.ch victim).pendSheet.isNone
  let s1 := (breakForm victim s).modCh victim fun c =>
    { c with forcedBreaks := satAdd c.forcedBreaks 1 }
  if newPending then releaseSheet victim s1 else s1

/-- A forced break for the head waiting line's channel: victim, waiting channel, last resort (R76). -/
def forcedBreak (waiting : ChannelId) (s : State) : State :=
  let s1 := match victimOf waiting s with
    | some v => breakVictim v s
    | none => s
  let s2 := releaseSheet waiting s1
  if s2.queue.length = s.queue.length then
    match mostOf fun ch => (s2.ch ch).pendSheet.map Form.cellCount with
    | some ch => releaseSheet ch s2
    | none => s2
  else s2

end Sys2Proof.Machine
end

