-- ==== Sys2Proof/Machine/Carriage.lean ====
section
/-! DEFINITION. The carriage: walks over form lines, skips, the marks (R48 to R52, R55, R56). -/

namespace Sys2Proof.Machine

/-- Tape channel k (1 to 12) is punched on a line: bit k − 1 of the line's mask (R42). -/
def Tape.punched (t : Tape) (k line : Nat) : Bool := (t.masks.getD line 0).getLsbD (k - 1)

/-- Where a walk has come to: the position, the two marks, and whether it has passed from the last
line to line 0. -/
structure Walk where
  pos : Nat
  overflow : Bool
  ch9 : Bool
  wrapped : Bool
  deriving DecidableEq, Repr

/-- The next line is reached. After line L − 1 comes line 0 of the next form, whose opening clears
both marks; the reached line then sets the marks it punches (R48). -/
def Walk.step (t : Tape) (w : Walk) : Walk :=
  let w1 : Walk :=
    if w.pos + 1 < t.length then { w with pos := w.pos + 1 }
    else { pos := 0, overflow := false, ch9 := false, wrapped := true }
  { w1 with overflow := w1.overflow || t.punched 12 w1.pos
            ch9 := w1.ch9 || t.punched 9 w1.pos }

/-- A walk of m steps (R48). -/
def Walk.run (t : Tape) : Nat → Walk → Walk
  | 0, w => w
  | m + 1, w => Walk.run t m (w.step t)

/-- The steps of a skip to tape channel k from line l: the first of the lines l + 1, l + 2, … modulo
L, L of them at most, that is punched; none for a runaway skip (R50 to R52). -/
def skipSteps (t : Tape) (k l : Nat) : Option Nat :=
  ((List.range t.length).find? fun j => t.punched k ((l + j + 1) % t.length)).map (· + 1)

/-- The steps of an operation's movement from its carriage: a space's count, a skip's search, an
EJECT's L − l; none for a runaway skip (R49, R50, R56). -/
def moveSteps (op : Op) (p : Paper) : Option Nat :=
  match op.kind with
  | .printSpace => some op.count
  | .spaceOnly => some op.count
  | .printSkip => skipSteps p.tape op.count p.pos
  | .skipOnly => skipSteps p.tape op.count p.pos
  | .eject => some (p.tape.length - p.pos)
  | .loadTape => some 0

/-- The walk of m steps from a channel's carriage. -/
def Channel.walk (c : Channel) (p : Paper) (m : Nat) : Walk :=
  Walk.run p.tape m ⟨p.pos, c.overflow, c.ch9, false⟩

/-- A movement is made whole: the position and the marks are the walk's, and where it wraps the open
form is closed NORMAL and routed and a new form opens at line 0 (R48, R53). -/
def makeMove (ch : ChannelId) (p : Paper) (w : Walk) (s : State) : State :=
  let form := if w.wrapped then Form.opened p.tape.length 0 else p.form
  let s1 := s.modCh ch fun c =>
    { c with overflow := w.overflow, ch9 := w.ch9
             paper := some { p with pos := w.pos, form := form } }
  if w.wrapped then routeClose ch p.form s1 else s1

/-- A new tape is installed: position 0, both marks clear, a new form at line 0 (R47). -/
def installTape (ch : ChannelId) (t : Tape) (s : State) : State :=
  s.modCh ch fun c =>
    { c with overflow := false, ch9 := false
             paper := some ⟨t, 0, Form.opened t.length 0⟩ }

/-- A panel EJECT has movement to make: a tape is loaded, and the position is not 0 or the open form
holds cells (R56). -/
def Channel.ejectMoves (c : Channel) : Bool :=
  match c.paper with
  | some p => !(decide (p.pos = 0) && decide (p.form.cellCount = 0))
  | none => false

end Sys2Proof.Machine
end

