-- ==== Sys2Proof/Machine/Operation.lean ====
section
/-! DEFINITION. The operation in flight: its start, its movement with the wait for queue room, its end
(R10 to R15, R47, R54, R56, R160), the wait for cells with its retries (R65 to R70, R75), the run-out
action (R78) and the offer of a freed queue place (R100). -/

namespace Sys2Proof.Machine

/-! ### Starting -/

/-- The channel leaves IDLE or STOPPED, or its counter is reloaded by a LAYOUT record: a due run-out
action is dropped and its claim leaves the room-wait list (R78, R100). -/
def dropRunOut (ch : ChannelId) (s : State) : State :=
  { s.modCh ch (fun c => { c with runOutDue := false }) with
    roomWait := s.roomWait.filter fun x => decide (x ≠ .runOut ch) }

/-- An operation starts: the channel goes to BUSY with its record (R9 to R11, R15). -/
def startOp (ch : ChannelId) (op : Op) (s : State) : State :=
  dropRunOut ch (s.modCh ch fun c => { c with state := .busy op })

/-- The operation record of an EJECT (R11). -/
def ejectOp : Op :=
  { kind := .eject, vp := false, count := 0, ie := false, stage := .moving none,
    linePlaced := false }

/-- A claimant joins the tail of the room-wait list (R100). -/
def joinRoom (x : Claim) (s : State) : State :=
  if s.roomWait.contains x then s else { s with roomWait := s.roomWait ++ [x] }

/-- A move that closes a form where `closes` holds finds its need met: no place is needed, or the
queue has one (R54). -/
def roomMet (ch : ChannelId) (closes : Bool) (s : State) : Bool :=
  !(closes && (s.ch ch).closeNeedsPlace) || s.hasPlace

/-! ### Panel operations -/

/-- The end of a panel operation: no completion; the stall counter is zeroed, the run-out counter
reloaded, the pending EJECT cleared, and the channel goes to STOPPED or IDLE (R15, R160). -/
def endPanelOp (ch : ChannelId) (s : State) : State :=
  s.modCh ch fun c =>
    { c with state := if c.pendStop then .stopped else .idle
             pendStop := false, pendEject := false, stall := 0, runOut := c.layout.runOut }

/-- The MOVING stage of a panel EJECT: the walk to line 0 of the next form, made when its close has
room, otherwise waiting for room (R54, R56). -/
def panelMove (ch : ChannelId) (s : State) : State :=
  match (s.ch ch).paper with
  | none => endPanelOp ch s
  | some p =>
    let w := (s.ch ch).walk p (p.tape.length - p.pos)
    if roomMet ch w.wrapped s then endPanelOp ch (makeMove ch p w s)
    else joinRoom (.move ch) s

/-- A panel EJECT starts (R15, R56). -/
def startEject (ch : ChannelId) (s : State) : State := panelMove ch (startOp ch ejectOp s)

/-! ### Completion of a host operation -/

/-- The pending STOP is applied: the channel goes to STOPPED, or to IDLE (R15). -/
def settleStop (ch : ChannelId) (s : State) : State :=
  s.modCh ch fun c => { c with state := if c.pendStop then .stopped else .idle, pendStop := false }

/-- The pending panel actions at a completion without a halt: a pending EJECT with movement to make
runs at once and leaves the pending STOP; one without is dropped; then the pending STOP is applied
(R15; log entry 11). -/
def applyPending (ch : ChannelId) (s : State) : State :=
  if (s.ch ch).pendEject then
    let s1 := s.modCh ch fun c => { c with pendEject := false }
    if (s.ch ch).ejectMoves then startEject ch s1 else settleStop ch s1
  else settleStop ch s

/-- The outcome halts the channel (R14). -/
def OpOutcome.halts : OpOutcome → Bool
  | .check => true
  | .formStop => true
  | _ => false

/-- The completion's effect on the channel's own registers: the record is removed, the outcome's flag
and DONE are set, the tally counts a placed line, the request is raised when IE is 1, the stall
counter is zeroed and the run-out counter reloaded (R13, R14). The channel stands in IDLE, or in
HALTED with its pending panel actions dropped. -/
def Channel.completed (c : Channel) (op : Op) (out : OpOutcome) : Channel :=
  { c with
    state := if out.halts then .halted else .idle
    done := true
    check := c.check || decide (out = .check)
    formStop := c.formStop || decide (out = .formStop)
    reject := c.reject || decide (out = .tapeRefused)
    tally := if op.kind.isPrint && op.linePlaced then c.tally + 1 else c.tally
    request := c.request || op.ie
    stall := 0
    runOut := c.layout.runOut
    pendStop := c.pendStop && !out.halts
    pendEject := c.pendEject && !out.halts }

/-- Completion of the host operation in flight with an outcome (R14). -/
def complete (ch : ChannelId) (out : OpOutcome) (s : State) : State :=
  match (s.ch ch).state with
  | .busy op =>
    let s1 := s.modCh ch fun c => c.completed op out
    let s2 := if op.kind.isPrint && op.linePlaced then requestTally ch s1 else s1
    if out.halts then s2 else applyPending ch s2
  | _ => s

/-! ### The MOVING stage of a host operation -/

/-- A LOAD-TAPE's installation: at once over no tape or over an unused form at position 0, otherwise
with a PARTIAL close that needs room (R47, R54). -/
def loadMove (ch : ChannelId) (t : Tape) (s : State) : State :=
  match (s.ch ch).paper with
  | none => complete ch .normal (installTape ch t s)
  | some p =>
    if p.pos = 0 ∧ p.form.cellCount = 0 then complete ch .normal (installTape ch t s)
    else if roomMet ch true s then
      complete ch .normal (routeClose ch p.form (installTape ch t s))
    else joinRoom (.move ch) s

/-- A print's, space's or skip's movement: FORM-STOP on a runaway skip, otherwise the walk, made when
its close has room, else waiting for room (R49 to R54). -/
def carriageMove (ch : ChannelId) (op : Op) (s : State) : State :=
  match (s.ch ch).paper with
  | none => s
  | some p =>
    match moveSteps op p with
    | none => complete ch .formStop s
    | some m =>
      let w := (s.ch ch).walk p m
      if roomMet ch w.wrapped s then complete ch .normal (makeMove ch p w s)
      else joinRoom (.move ch) s

/-- The channel's operation in MOVING tries its move (R12, R54). -/
def tryMove (ch : ChannelId) (s : State) : State :=
  match (s.ch ch).state with
  | .busy op =>
    match op.stage with
    | .moving held =>
      match op.kind with
      | .eject => panelMove ch s
      | .loadTape =>
        match held with
        | some t => loadMove ch t s
        | none => s
      | _ => carriageMove ch op s
    | _ => s
  | _ => s

/-! ### Waiting for cells -/

/-- The strike list of the channel's line in PLACING. -/
def State.waitingStrikes (s : State) (ch : ChannelId) : Option (List Strike) :=
  match (s.ch ch).state with
  | .busy op =>
    match op.stage with
    | .placing strikes => some strikes
    | _ => none
  | _ => none

/-- The waiting lines retried in list order: the head is merged while the free count covers it, and
its operation goes on through MOVING before the next is tried; the first that does not fit stops
the retries (R69). -/
def retryLines : List ChannelId → State → State
  | [], s => s
  | ch :: rest, s =>
    match s.waitingStrikes ch with
    | none => s
    | some strikes =>
      if s.cellsNeeded ch strikes ≤ s.freeCells then
        retryLines rest
          (tryMove ch (mergeLine ch strikes { s with cellWait := s.cellWait.erase ch }))
      else s

/-- The wait list retried (R69). -/
def retryWaiting (s : State) : State := retryLines s.cellWait s

/-- A forced break where a line waits and the sheet queue is empty, with the retries of the cells it
clips (R75, R76). -/
def forceIfDry (s : State) : State :=
  match s.cellWait, s.queue with
  | ch :: _, [] =>
    let s1 := forcedBreak ch s
    if s.freeCells < s1.freeCells then retryWaiting s1 else s1
  | _, _ => s

/-- What follows a freeing of cells: the retries, then the forced-break test (R69, R75, R80). -/
def afterFreeing (s : State) : State := forceIfDry (retryWaiting s)

/-- The retries that follow an event in which sheet entries may have clipped cells: made when the free
count has risen above its value before (R92; log entry 10). -/
def settleFrom (before : Nat) (s : State) : State :=
  if before < s.freeCells then afterFreeing s else s

/-- The operation tries its move, with the retries of the cells its close clips (R54, R92). -/
def moveOn (ch : ChannelId) (s : State) : State := settleFrom s.freeCells (tryMove ch s)

/-- The operation ends with an outcome, with the retries of the cells that a pending EJECT's close
clips (R14, R92). -/
def endOp (ch : ChannelId) (out : OpOutcome) (s : State) : State :=
  settleFrom s.freeCells (complete ch out s)

/-- A line joins the wait list, and the forced-break test is made (R68, R75). -/
def joinCells (ch : ChannelId) (s : State) : State :=
  forceIfDry { s with cellWait := s.cellWait ++ [ch] }

/-- The line of a channel whose operation has entered PLACING: merged at once when it needs no cell,
or when nobody waits and the pool can give all its cells; otherwise it waits whole (R65, R68). -/
def placeLineNow (ch : ChannelId) (strikes : List Strike) (s : State) : State :=
  let need := s.cellsNeeded ch strikes
  if need = 0 ∨ (s.cellWait = [] ∧ need ≤ s.freeCells) then moveOn ch (mergeLine ch strikes s)
  else joinCells ch s

/-! ### Run-out and the offer of a place -/

/-- The run-out action enters a sheet: the open form holds cells, or a sheet is pending (R78). -/
def Channel.runOutEnters (c : Channel) : Bool := c.holdsCells || c.pendSheet.isSome

/-- The run-out action: the open form is broken when it holds cells, a pending sheet is then released,
and the action is no longer due (R78). -/
def takeRunOut (ch : ChannelId) (s : State) : State :=
  let s1 := s.modCh ch fun c => { c with runOutDue := false }
  let s2 := if (s.ch ch).holdsCells then breakForm ch s1 else s1
  releaseSheet ch s2

/-- A due run-out action is tried: taken when it needs no place or the queue has one, otherwise held
due on the room-wait list (R78, R100). -/
def tryRunOut (ch : ChannelId) (s : State) : State :=
  if !(s.ch ch).runOutEnters || s.hasPlace then takeRunOut ch s
  else joinRoom (.runOut ch) s

/-- The close that a channel's waiting move will make needs a place (R54, R100). -/
def moveNeedsPlace (ch : ChannelId) (s : State) : Bool := (s.ch ch).closeNeedsPlace

/-- A claimant can be taken now: it needs no place, or the queue has one (R100). -/
def claimTakable (x : Claim) (s : State) : Bool :=
  match x with
  | .move ch => !moveNeedsPlace ch s || s.hasPlace
  | .runOut ch => !(s.ch ch).runOutEnters || s.hasPlace

/-- A claimant leaves the room-wait list and makes its move or its run-out action whole (R100). -/
def takeClaim (x : Claim) (s : State) : State :=
  let s1 := { s with roomWait := s.roomWait.filter fun y => decide (y ≠ x) }
  match x with
  | .move ch => tryMove ch s1
  | .runOut ch => takeRunOut ch s1

/-- The claimants considered in list order, each taken if it can be (R100). -/
def offerClaims : List Claim → State → State
  | [], s => s
  | x :: rest, s => offerClaims rest (if claimTakable x s then takeClaim x s else s)

/-- A freed place offered to the room-wait list (R100), with the retries of the cells that entries made
there clip (R101, step 2): once, after the last claimant (DESIGN CHOICE, unsafe: log entry 27). -/
def offerPlace (s : State) : State := settleFrom s.freeCells (offerClaims s.roomWait s)

end Sys2Proof.Machine
end

