-- ==== Sys2Proof/Machine/Taking.lean ====
section
/-! DEFINITION. The TAKING stage: the taken-line record, translation, policy and shift (R24 to R37), and
the tape-taking record (R42 to R46). -/

namespace Sys2Proof.Machine

/-! ### Page words and positions (R27, R162) -/

/-- Words of a page. -/
def pageWords : Nat := 80

/-- The address of word w of page VP of a channel. -/
def State.pageAddr (s : State) (ch : ChannelId) (vp : Bool) (w : Nat) : Addr :=
  s.wordAddr (.pages ch) ((if vp then pageWords else 0) + w)

/-- Page word w has a byte among positions 1 to n that is absent (R27). -/
def needsPageWord (n w : Nat) (t : TakenWord) : Bool :=
  (decide (2 * w + 1 ≤ n) && t.hi.isNone) || (decide (2 * w + 2 ≤ n) && t.lo.isNone)

/-- The page words to fetch for a length n, in ascending address (R27). -/
def State.pageList (s : State) (ch : ChannelId) (vp : Bool) (n : Nat) (words : List TakenWord) :
    List FetchWord :=
  ((List.range pageWords).filter fun w => needsPageWord n w (words.getD w TakenWord.absent)).map
    fun w => ⟨s.pageAddr ch vp w, .page w⟩

/-- The line length of control word 2: clamped to 160 (R25). -/
def lineLength (w : Word) : Nat := min w.toNat Config.columns

/-- The record once the length is fixed at n: the page words are listed (R27). -/
def State.fixLength (s : State) (ch : ChannelId) (vp : Bool) (n : Nat) (r : LineRec) : LineRec :=
  { r with length := some n, toFetch := s.pageList ch vp n r.words }

/-- The taken-line record at a print GO: the line length and the 160 bytes of page VP copied from the
shadow; with the length whole it is KNOWN and the page words are listed, otherwise its word heads the
list (R24 to R27). -/
def State.newLine (s : State) (ch : ChannelId) (vp : Bool) : LineRec :=
  let a2 := s.wordAddr (.control ch) 2
  let r : LineRec :=
    { length := none, lengthDamaged := false, lengthWord := s.copyWord a2
      words := (List.range pageWords).map fun w => s.copyWord (s.pageAddr ch vp w)
      toFetch := [⟨a2, .lineLength⟩], outstanding := 0 }
  match r.lengthWord.value with
  | some v => s.fixLength ch vp (lineLength v) r
  | none => r

/-! ### Translation, policy, shift (R31 to R36) -/

/-- What a position gives at translation (R32). -/
inductive Position where
  | strike (g : Glyph)
  | blank
  | unprintable
  deriving DecidableEq, Repr

/-- The byte of position p (1 to 160) in the record, when present and undamaged. -/
def LineRec.code (r : LineRec) (p : Nat) : Option Byte :=
  let t := r.words.getD ((p - 1) / 2) TakenWord.absent
  if p % 2 = 1 then (if t.hiDamaged then none else t.hi)
  else (if t.loDamaged then none else t.lo)

/-- A position's translation: a damaged position is unprintable, otherwise its code selects an entry
of the table (R32). -/
def translate (table : List TransEntry) (code : Option Byte) : Position :=
  match code with
  | none => .unprintable
  | some c =>
    match table.getD c.toNat .unprintable with
    | .glyph g => .strike g
    | .blank => .blank
    | .unprintable => .unprintable

/-- The line's positions 1 to n translated, in order. -/
def LineRec.positions (r : LineRec) (table : List TransEntry) (n : Nat) : List (Nat × Position) :=
  (List.range n).map fun i => (i + 1, translate table (r.code (i + 1)))

/-- A position after the policy: the glyph it strikes, if any (R33, R34). -/
def afterPolicy (policy : Policy) (subst : Glyph) : Position → Option Glyph
  | .strike g => some g
  | .blank => none
  | .unprintable =>
    match policy with
    | .substitute => some subst
    | _ => none

/-- The strikes that survive translation and policy, each with its shifted column c = p − 1 + s, in
position order (R36). -/
def shiftedStrikes (policy : Policy) (subst : Glyph) (shift : Int) (ps : List (Nat × Position)) :
    List (Int × Glyph) :=
  ps.filterMap fun x =>
    (afterPolicy policy subst x.2).map fun g => ((x.1 : Int) - 1 + shift, g)

/-- The column lies on the form (R36). -/
def onForm (c : Int) : Bool := decide (0 ≤ c) && decide (c < 160)

/-- The kept strikes as the strike list handed on (R36, R37). -/
def keptStrikes (ks : List (Int × Glyph)) : List Strike :=
  (ks.filter fun k => onForm k.1).map fun k => ⟨k.1.toNat, k.2⟩

/-- The columns of the dropped strikes, in position order (R36). -/
def droppedColumns (ks : List (Int × Glyph)) : List Int :=
  (ks.filter fun k => !onForm k.1).map Prod.fst

/-- The end of TAKING: the line is translated and its unprintable positions counted; under CHECK a line
with one, or with a damaged length, is refused; otherwise it is shifted, dropped strikes are counted
and the strike list goes to PLACING (R31 to R37). -/
def endLine (ch : ChannelId) (r : LineRec) (s : State) : State :=
  let c := s.ch ch
  let ps := r.positions s.setup.translation (r.length.getD 0)
  let bad := ps.countP fun x => decide (x.2 = .unprintable)
  let s1 := s.modCh ch fun c => { c with unprintable := satAdd c.unprintable bad }
  if c.policy = .check ∧ (0 < bad ∨ r.lengthDamaged = true) then endOp ch .check s1
  else
    let ks := shiftedStrikes c.policy c.substitute c.shift ps
    let dropped := droppedColumns ks
    let strikes := keptStrikes ks
    let s2 := s1.modCh ch fun c =>
      { c with shiftLost := satAdd c.shiftLost dropped.length
               lastDropped := match dropped.getLast? with
                 | some col => some col
                 | none => c.lastDropped }
    placeLineNow ch strikes (s2.setStage ch (.placing strikes))

/-- The line's TAKING goes on: it ends when the length is fixed, the list is empty and no fetch is
outstanding; otherwise the line taker asks for places (R28, R31). -/
def goOnLine (ch : ChannelId) (r : LineRec) (s : State) : State :=
  if r.length.isSome && r.toFetch.isEmpty && decide (r.outstanding = 0) then endLine ch r s
  else askPlaces (.operation ch) (s.setStage ch (.takingLine r))

/-- The print operation's TAKING begins at its GO (R24, R31). -/
def beginLine (ch : ChannelId) (vp : Bool) (s : State) : State :=
  goOnLine ch (s.newLine ch vp) s

/-- The bytes newly damaged by a fill: lacked, needed and delivered invalid (R29). -/
def newlyDamaged (t : TakenWord) (needHi needLo : Bool) (hi lo : Option Byte) : Nat :=
  (if needHi && t.hi.isNone && hi.isNone then 1 else 0) +
    (if needLo && t.lo.isNone && lo.isNone then 1 else 0)

/-- The line taker takes a fetch's answer: for the line length (R26) or for a page word (R29). -/
def deliverLine (ch : ChannelId) (vp : Bool) (r : LineRec) (dest : Dest) (hi lo : Option Byte)
    (s : State) : State :=
  match dest with
  | .lineLength =>
    let t := r.lengthWord.fill true true hi lo
    let r1 := { r with lengthWord := t, outstanding := r.outstanding - 1 }
    match t.value with
    | some v => goOnLine ch (s.fixLength ch vp (lineLength v) r1) s
    | none =>
      goOnLine ch { r1 with length := some 0, lengthDamaged := true, toFetch := [] }
        (s.modCh ch fun c => { c with damaged := satAdd c.damaged 1
                                      unprintable := satAdd c.unprintable 1 })
  | .page w =>
    let n := r.length.getD 0
    let needHi := decide (2 * w + 1 ≤ n)
    let needLo := decide (2 * w + 2 ≤ n)
    let t := r.words.getD w TakenWord.absent
    let r1 := { r with words := r.words.set w (t.fill needHi needLo hi lo)
                       outstanding := r.outstanding - 1 }
    goOnLine ch r1
      (s.modCh ch fun c =>
        { c with damaged := satAdd c.damaged (newlyDamaged t needHi needLo hi lo) })
  | _ => s

/-! ### Taking a tape (R42 to R46) -/

/-- The tape length is within 12 to 192 (R44). -/
def tapeLengthOk (n : Nat) : Bool := decide (12 ≤ n) && decide (n ≤ 192)

/-- The mask words 1 to L that lack a byte, in ascending address (R45). -/
def State.maskList (s : State) (ch : ChannelId) (n : Nat) (words : List TakenWord) :
    List FetchWord :=
  ((List.range n).filter fun i => !(words.getD (i + 1) TakenWord.absent).complete).map
    fun i => ⟨s.wordAddr (.tape ch) (i + 1), .tape (i + 1)⟩

/-- The tape-taking record at a LOAD-TAPE GO: words 0 to 192 copied from the shadow (R43). -/
def State.newTape (s : State) (ch : ChannelId) : TapeRec :=
  { length := none
    words := (List.range 193).map fun i => s.copyWord (s.wordAddr (.tape ch) i)
    toFetch := [⟨s.wordAddr (.tape ch) 0, .tape 0⟩], outstanding := 0 }

/-- A form line's mask: the low 12 bits of its word, or 0 for a damaged word (R42, R46). -/
def maskOf (t : TakenWord) : BitVec 12 :=
  match t.value with
  | some v => if t.damaged then 0 else v.extractLsb' 0 12
  | none => 0

/-- The tape of a record whose length is L: the masks of lines 0 to L − 1 (R42, R46). -/
def TapeRec.tape (r : TapeRec) (n : Nat) : Tape :=
  { masks := (List.range n).map fun i => maskOf (r.words.getD (i + 1) TakenWord.absent) }

/-- The tape's TAKING goes on: it ends when the length is fixed, the list is empty and no fetch is
outstanding, and the tape passes to MOVING; otherwise the carriage unit asks for places (R45 to R47). -/
def goOnTape (ch : ChannelId) (r : TapeRec) (s : State) : State :=
  match r.length with
  | some n =>
    if r.toFetch.isEmpty && decide (r.outstanding = 0) then
      moveOn ch (s.setStage ch (.moving (some (r.tape n))))
    else askPlaces (.operation ch) (s.setStage ch (.takingTape r))
  | none => askPlaces (.operation ch) (s.setStage ch (.takingTape r))

/-- The tape length is checked as soon as it is fixed: a length outside 12 to 192 refuses the tape at
once, otherwise the mask words are listed (R44, R45). -/
def fixTape (ch : ChannelId) (v : Word) (r : TapeRec) (s : State) : State :=
  if tapeLengthOk v.toNat then
    goOnTape ch { r with length := some v.toNat, toFetch := s.maskList ch v.toNat r.words } s
  else endOp ch .tapeRefused s

/-- The LOAD-TAPE's TAKING begins at its GO (R43, R44). -/
def beginTape (ch : ChannelId) (s : State) : State :=
  let r := s.newTape ch
  match (r.words.getD 0 TakenWord.absent).value with
  | some v => fixTape ch v r s
  | none => goOnTape ch r s

/-- The carriage unit takes a fetch's answer: word 0 fixes the length or refuses the tape as damaged;
a mask word is filled, or damaged (R44, R46). -/
def deliverTape (ch : ChannelId) (r : TapeRec) (dest : Dest) (hi lo : Option Byte) (s : State) :
    State :=
  match dest with
  | .tape i =>
    let t := (r.words.getD i TakenWord.absent).fill true true hi lo
    let r1 := { r with words := r.words.set i t, outstanding := r.outstanding - 1 }
    if i = 0 then
      match t.value with
      | some v => fixTape ch v r1 s
      | none => endOp ch .tapeRefused s
    else goOnTape ch r1 s
  | _ => s

end Sys2Proof.Machine
end

