-- ==== Sys2Proof/Machine/Go.lean ====
section
/-! DEFINITION. Command-word writes and GOs (R3 to R10), tally presets (R20), status reads (R17), and
the tick of a channel controller (R153). -/

namespace Sys2Proof.Machine

/-- A refused GO sets REJECT and changes nothing else (R8 to R10). -/
def refuseGo (ch : ChannelId) (s : State) : State := s.modCh ch fun c => { c with reject := true }

/-- An accepted CLEAR's effect on the channel's own registers (R8, R55). -/
def Channel.cleared (c : Channel) : Channel :=
  { c with
    state := match c.state with
      | .halted => .idle
      | st => st
    check := false, formStop := false, reject := false, done := false
    overflow := false, ch9 := false, tally := 0, request := false, stall := 0 }

/-- A CLEAR: refused in BUSY, taken in IDLE, STOPPED and HALTED; a tally that was not 0 is written
back as 0 (R8, R19). An OFFLINE channel takes no GO (R1, R23). -/
def goClear (ch : ChannelId) (s : State) : State :=
  match (s.ch ch).state with
  | .busy _ => refuseGo ch s
  | .offline => s
  | _ =>
    let s1 := s.modCh ch Channel.cleared
    if (s.ch ch).tally = 0 then s1 else requestTally ch s1

/-- The operation record of an accepted GO, before its first stage (R11). -/
def hostOp (kind : OpKind) (vp : Bool) (count : Nat) (ie : Bool) : Op :=
  { kind := kind, vp := vp, count := count, ie := ie, stage := .moving none, linePlaced := false }

/-- A LOAD-TAPE GO: accepted in IDLE, otherwise refused (R9). -/
def goLoad (ch : ChannelId) (ie : Bool) (s : State) : State :=
  match (s.ch ch).state with
  | .idle => beginTape ch (startOp ch (hostOp .loadTape false 0 ie) s)
  | .offline => s
  | _ => refuseGo ch s

/-- The count of a move is valid: a skip's lies within 1 to 12 (R10). -/
def countOk (kind : OpKind) (count : Nat) : Bool :=
  !kind.isSkip || (decide (1 ≤ count) && decide (count ≤ 12))

/-- A print or move GO: accepted in IDLE with a tape loaded and a valid count, otherwise refused; a
print begins by taking its line, a move by moving (R10, R12). -/
def goMove (ch : ChannelId) (kind : OpKind) (vp : Bool) (count : Nat) (ie : Bool) (s : State) :
    State :=
  match (s.ch ch).state with
  | .idle =>
    if (s.ch ch).paper.isSome && countOk kind count then
      let s1 := startOp ch (hostOp kind vp count ie) s
      if kind.isPrint then beginLine ch vp s1 else moveOn ch s1
    else refuseGo ch s
  | .offline => s
  | _ => refuseGo ch s

/-- A GO, dispatched by its flags: CLEAR over LOAD-TAPE over the print and move kinds (R8 to R10). -/
def takeGo (ch : ChannelId) (command : Word) (s : State) : State :=
  match decodeGo command with
  | .clear => goClear ch s
  | .loadTape ie => goLoad ch ie s
  | .move kind vp count ie => goMove ch kind vp count ie s

/-- The write makes a GO in the channel's mode: in STROBE when it leaves GO = 1, in EDGE when also the
merged value before it had GO = 0, in SAMPLED never (R4 to R6). -/
def writeMakesGo (mode : GoMode) (before after : Word) : Bool :=
  match mode with
  | .strobe => goBit after
  | .edge => goBit after && !goBit before
  | .sampled => false

/-- A host write to the command word: the named bytes enter the merged value, and the write may be a
GO (R1, R3 to R6). -/
def commandWrite (ch : ChannelId) (w : BusWrite) (s : State) : State :=
  let before := (s.ch ch).merged
  let after := mergeBytes w before
  let s1 := s.modCh ch fun c => { c with merged := after, prevMerged := before }
  if writeMakesGo (s.ch ch).goMode before after then takeGo ch after s1 else s1

/-- A host write to the tally word presets the internal tally; a waiting TALLY-WRITE is removed by a
write of both bytes and takes the new tally on a write of one (R20). -/
def presetTally (ch : ChannelId) (w : BusWrite) (s : State) : State :=
  let s1 := s.modCh ch fun c => { c with tally := mergeBytes w c.tally }
  if w.en.hi && w.en.lo then removeTally ch s1
  else if w.en.hi || w.en.lo then updateTally ch s1
  else s1

/-- A status read clears DONE and REJECT and drops the done-request line (R17, R18). -/
def statusTaken (ch : ChannelId) (s : State) : State :=
  s.modCh ch fun c => { c with done := false, reject := false, request := false }

/-! ### The tick of a channel controller (R153) -/

/-- Step 1: the stall counter rises in BUSY, saturating (R21). -/
def tickStall (ch : ChannelId) (s : State) : State :=
  s.modCh ch fun c => if c.state.isBusy then { c with stall := satAdd c.stall 1 } else c

/-- The channel is IDLE or STOPPED. -/
def ChState.isQuiet : ChState → Bool
  | .idle => true
  | .stopped => true
  | _ => false

/-- The run-out counter counts on this tick: above 0, IDLE or STOPPED, no action due, and something to
run out (R77). -/
def Channel.runOutCounts (c : Channel) : Bool :=
  decide (0 < c.runOut) && c.state.isQuiet && !c.runOutDue && c.runOutEnters

/-- Step 2: the run-out counter is decremented; at 0 the action becomes due and is tried (R77, R78). The
retries of cells that its sheet clips follow the whole action and come before the sample (R92, R153; DESIGN
CHOICE, unsafe: log entry 27). -/
def tickRunOut (ch : ChannelId) (s : State) : State :=
  if (s.ch ch).runOutCounts then
    let s1 := s.modCh ch fun c => { c with runOut := c.runOut - 1 }
    if (s.ch ch).runOut = 1 then
      settleFrom s.freeCells (tryRunOut ch (s1.modCh ch fun c => { c with runOutDue := true }))
    else s1
  else s

/-- Step 3: in SAMPLED mode the merged value is sampled, and a sample whose GO rose is a GO (R6). -/
def tickSample (ch : ChannelId) (s : State) : State :=
  let c := s.ch ch
  if c.goMode = .sampled then
    let s1 := s.modCh ch fun c => { c with prevSample := c.merged }
    if goBit c.merged && !goBit c.prevSample then takeGo ch c.merged s1 else s1
  else s

/-- A tick taken by a channel controller: stall, run-out, sample, in this order; a channel in OFFLINE
takes none (R152, R153). -/
def channelTick (ch : ChannelId) (s : State) : State :=
  match (s.ch ch).state with
  | .offline => s
  | _ => tickSample ch (tickRunOut ch (tickStall ch s))

end Sys2Proof.Machine
end

