-- ==== Sys2Proof/Machine/Setup.lean ====
section
/-! DEFINITION. The setup unit: applying and checking records, their effects, and QUERY answers
(R83, R84, R123, R137 to R151, R163, R164). -/

namespace Sys2Proof.Machine

/-- The seven kinds of setup record (10.4). -/
inductive RecordKind where
  | channel | layout | xlate | glyph | link | disable | query
  deriving DecidableEq, Repr

/-- The kind a kind code names; any other value names none (R163). -/
def recordKindOf (w : Word) : Option RecordKind :=
  if w = 1 then some .channel
  else if w = 2 then some .layout
  else if w = 3 then some .xlate
  else if w = 4 then some .glyph
  else if w = 5 then some .link
  else if w = 6 then some .disable
  else if w = 7 then some .query
  else none

/-- The payload words a kind uses (08, 8.2). -/
def RecordKind.payload : RecordKind → List Nat
  | .channel => [2, 3, 4, 5, 6, 7, 8, 9, 10, 11]
  | .layout => [2, 3, 4, 5, 6, 7, 8, 9, 10, 11, 12]
  | .xlate => [2, 3, 4, 5, 6, 7, 8, 9, 10, 11, 12, 13, 14, 15, 16, 17]
  | .glyph => [2, 3, 4, 5, 6, 7, 8, 9, 10, 11, 12, 13, 14, 15, 16, 17]
  | .link => [2]
  | .disable => []
  | .query => []

/-- The words whose validity matters to a kind: its payload, and word 1 except for LINK (08, 8.2). -/
def RecordKind.uses : RecordKind → List Nat
  | .link => [2]
  | k => 1 :: k.payload

/-- Word i of a record being taken. -/
def ApplyRec.word (r : ApplyRec) (i : Nat) : TakenWord := r.words.getD i TakenWord.absent

/-- The value of a word, 0 where it is not complete; used only after the check that it is. -/
def ApplyRec.field (r : ApplyRec) (i : Nat) : Word := (r.word i).value.getD 0

/-- The value of a word as an unsigned number. -/
def ApplyRec.num (r : ApplyRec) (i : Nat) : Nat := (r.field i).toNat

/-- The record's kind: word 0 complete and a known code (R142, check 1). -/
def ApplyRec.kind (r : ApplyRec) : Option RecordKind := (r.word 0).value.bind recordKindOf

/-- The result of an apply (R142). -/
def setResult (code : ResultCode) (s : State) : State :=
  { s with setup := { s.setup with result := code } }

/-! ### CHANNEL (R123, R143, R144) -/

/-- The fields of a CHANNEL record. -/
structure ChannelRecord where
  target : ChannelId
  control : Addr
  pages : Addr
  tape : Addr
  goMode : GoMode
  policy : Policy
  substitute : Glyph
  shift : Int
  deriving DecidableEq, Repr

/-- A window base of two words, within 0 to a limit (R143, R163). -/
def baseOf (hi lo : Word) (limit : Nat) : Option Addr :=
  if hi.toNat ≤ 15 ∧ hi.toNat * 65536 + lo.toNat ≤ limit then
    some (BitVec.ofNat 20 (hi.toNat * 65536 + lo.toNat))
  else none

/-- A GO mode code (10.4). -/
def goModeOf (w : Word) : Option GoMode :=
  if w = 0 then some .strobe else if w = 1 then some .edge
  else if w = 2 then some .sampled else none

/-- A policy code (10.4). -/
def policyOf (w : Word) : Option Policy :=
  if w = 0 then some .blank else if w = 1 then some .substitute
  else if w = 2 then some .check else none

/-- A glyph number, 0 to 63. -/
def glyphOf (n : Nat) : Option Glyph := if h : n < 64 then some ⟨n, h⟩ else none

/-- A column shift: a signed word within −32 to +32 (R163). -/
def shiftOf (w : Word) : Option Int :=
  if -32 ≤ w.toInt ∧ w.toInt ≤ 32 then some w.toInt else none

/-- The fields of a CHANNEL record, when every one is within its range (R143). -/
def channelRecordOf (r : ApplyRec) : Option ChannelRecord := do
  let target ← channelOf (r.num 1)
  let control ← baseOf (r.field 2) (r.field 3) 1048572
  let pages ← baseOf (r.field 4) (r.field 5) 1048416
  let tape ← baseOf (r.field 6) (r.field 7) 1048383
  let goMode ← goModeOf (r.field 8)
  let policy ← policyOf (r.field 9)
  let substitute ← glyphOf (r.num 10)
  let shift ← shiftOf (r.field 11)
  return ⟨target, control, pages, tape, goMode, policy, substitute, shift⟩

/-- The three windows of a CHANNEL record (R123). -/
def ChannelRecord.windows (x : ChannelRecord) : List Window :=
  [⟨x.control, .control x.target⟩, ⟨x.pages, .pages x.target⟩, ⟨x.tape, .tape x.target⟩]

/-- The windows of a channel in the table. -/
def State.channelWindows (s : State) (ch : ChannelId) : List Window :=
  s.windows.filter fun w => decide (w.role.channel = some ch)

/-- The windows of the table without a channel's own. -/
def State.otherWindows (s : State) (ch : ChannelId) : List Window :=
  s.windows.filter fun w => decide (w.role.channel ≠ some ch)

/-- The window check: a new window shares an address with another new one, with the setup window or
with a window of another channel (R123). -/
def windowClash (x : ChannelRecord) (s : State) : Bool :=
  (⟨x.control, .control x.target⟩ : Window).overlaps ⟨x.pages, .pages x.target⟩ ||
  (⟨x.control, .control x.target⟩ : Window).overlaps ⟨x.tape, .tape x.target⟩ ||
  (⟨x.pages, .pages x.target⟩ : Window).overlaps ⟨x.tape, .tape x.target⟩ ||
  x.windows.any fun v => (s.otherWindows x.target).any fun w => v.overlaps w

/-- The shadow without the bytes of a list of windows (R123). -/
def Memory.eraseWindows (m : Memory) (ws : List Window) : Memory :=
  ws.foldl (fun acc w => acc.eraseWords w.base w.role.length) m

/-- The binding: the channel's old windows go with their shadow, the new ones are added with every
shadow byte invalid (R123). -/
def bindWindows (x : ChannelRecord) (s : State) : State :=
  { s with
    windows := s.otherWindows x.target ++ x.windows
    shadow := (s.shadow.eraseWindows (s.channelWindows x.target)).eraseWindows x.windows }

/-- The channel's registers after a CHANNEL record: GO mode, cleared command values, policy, substitute
glyph and shift; an OFFLINE channel goes to IDLE with no tape, marks and flags clear (R23, R38, R41,
R144). -/
def Channel.bound (c : Channel) (x : ChannelRecord) : Channel :=
  let c1 : Channel :=
    { c with goMode := x.goMode, merged := 0, prevMerged := 0, prevSample := 0
             policy := x.policy, substitute := x.substitute, shift := x.shift }
  match c.state with
  | .offline =>
    { c1 with state := .idle, paper := none, check := false, formStop := false, reject := false
              done := false, overflow := false, ch9 := false, stall := 0, pendStop := false
              pendEject := false, request := false }
  | _ => c1

/-- The state condition of a CHANNEL record: OFFLINE, IDLE or STOPPED (R142). -/
def ChState.bindable : ChState → Bool
  | .offline => true
  | .idle => true
  | .stopped => true
  | _ => false

/-- A CHANNEL record checked and applied (R142 to R144). -/
def applyChannel (r : ApplyRec) (s : State) : State :=
  match channelRecordOf r with
  | none => setResult .badValue s
  | some x =>
    if !(s.ch x.target).state.bindable then setResult .busy s
    else if windowClash x s then setResult .overlap s
    else setResult .done ((bindWindows x s).modCh x.target fun c => c.bound x)

/-! ### LAYOUT (R83, R84, R145) -/

/-- A number within a range. -/
def within (n lo hi : Nat) : Bool := decide (lo ≤ n) && decide (n ≤ hi)

/-- The layout a LAYOUT record carries, when every field is within its range (R82, R145). -/
def layoutOf (r : ApplyRec) : Option (ChannelId × Layout) := do
  let target ← channelOf (r.num 1)
  if within (r.num 2) 1 255 && within (r.num 3) 1 255 && within (r.num 4) 1 8192 &&
      within (r.num 5) 1 2 && within (r.num 10) 1 65535 && within (r.num 11) 1 65535 &&
      within (r.num 12) 0 255 then
    return (target,
      { geo := { px := r.num 2, py := r.num 3, scale := r.num 4, twoUp := decide (r.num 5 = 2)
                 ox0 := r.num 6, oy0 := r.num 7, ox1 := r.num 8, oy1 := r.num 9
                 width := r.num 10, height := r.num 11 }
        runOut := r.num 12 })
  else none

/-- The LAYOUT record must release the channel's pending sheet: slot count 2 to 1 with one held
(R84). -/
def layoutReleases (ch : ChannelId) (l : Layout) (s : State) : Bool :=
  (s.ch ch).layout.geo.twoUp && !l.geo.twoUp && (s.ch ch).pendSheet.isSome

/-- A LAYOUT record checked and applied: the pending sheet released under the old layout where it must
be, the layout replaced, the run-out counter reloaded and a due action dropped (R83, R84). The retries of
cells that the release clips come last, under the new layout (R92; DESIGN CHOICE, unsafe: log entry 27). -/
def applyLayout (r : ApplyRec) (s : State) : State :=
  match layoutOf r with
  | none => setResult .badValue s
  | some (ch, l) =>
    if layoutReleases ch l s && !s.hasPlace then setResult .busy s
    else
      let s1 := if layoutReleases ch l s then releaseSheet ch s else s
      let s2 := dropRunOut ch (s1.modCh ch fun c => { c with layout := l, runOut := l.runOut })
      setResult .done (settleFrom s.freeCells s2)

/-! ### XLATE, GLYPH, LINK (R146 to R148) -/

/-- A run of entries of a table replaced from a start. -/
def replaceRun {α : Type} (table : List α) (start : Nat) (new : List α) : List α :=
  table.take start ++ new ++ table.drop (start + new.length)

/-- A translation entry: 0 to 63, 254 or 255 (R147). -/
def transEntryOf (n : Nat) : Option TransEntry :=
  if n = 254 then some .blank
  else if n = 255 then some .unprintable
  else (glyphOf n).map .glyph

/-- The sixteen payload words of a record. -/
def ApplyRec.sixteen (r : ApplyRec) : List Word := (List.range 16).map fun j => r.field (j + 2)

/-- Every element of a list, or none when one is missing. -/
def allSome {α : Type} : List (Option α) → Option (List α)
  | [] => some []
  | none :: _ => none
  | some a :: rest => (allSome rest).map (a :: ·)

/-- An XLATE record checked and applied: all sixteen entries or none (R147). -/
def applyXlate (r : ApplyRec) (s : State) : State :=
  match allSome (r.sixteen.map fun w => transEntryOf w.toNat) with
  | none => setResult .badValue s
  | some new =>
    if r.num 1 ≤ 240 then
      setResult .done { s with setup := { s.setup with
        translation := replaceRun s.setup.translation (r.num 1) new } }
    else setResult .badValue s

/-- A GLYPH record checked and applied (R148). -/
def applyGlyph (r : ApplyRec) (s : State) : State :=
  if r.num 1 ≤ 48 then
    setResult .done { s with setup := { s.setup with
      glyphCodes := replaceRun s.setup.glyphCodes (r.num 1) r.sixteen } }
  else setResult .badValue s

/-- A LINK record checked and applied (R146). -/
def applyLink (r : ApplyRec) (s : State) : State :=
  if within (r.num 2) 5 100 then
    setResult .done { s with link := { s.link with replyTimeout := r.num 2 } }
  else setResult .badValue s

/-! ### DISABLE (R79, R149) -/

/-- The form store's disposal of a disabled channel's forms: an open form with cells is broken with no
CONTINUED form, then a pending sheet is released, and the channel has no open form (R79). The tape and
the position go with it (R41). -/
def disposeForms (ch : ChannelId) (s : State) : State :=
  match (s.ch ch).paper with
  | none => releaseSheet ch s
  | some p =>
    let s1 := s.modCh ch fun c => { c with paper := none }
    releaseSheet ch (if 0 < p.form.cellCount then routeClose ch p.form s1 else s1)

/-- The controller's part of a DISABLE, with the marks (R23, R41, R149). -/
def Channel.disabled (c : Channel) : Channel :=
  { c with
    state := .offline, request := false, done := false, reject := false, check := false
    formStop := false, pendStop := false, pendEject := false, overflow := false, ch9 := false }

/-- The path unit's part of a DISABLE: the channel's entries and their shadow go (R123). -/
def unbindWindows (ch : ChannelId) (s : State) : State :=
  { s with
    windows := s.otherWindows ch
    shadow := s.shadow.eraseWindows (s.channelWindows ch) }

/-- A DISABLE record checked and applied (R149). The retries of cells that its sheet clips come last (R92;
DESIGN CHOICE, unsafe: log entry 27). -/
def applyDisable (r : ApplyRec) (s : State) : State :=
  match channelOf (r.num 1) with
  | none => setResult .badValue s
  | some ch =>
    match (s.ch ch).state with
    | .offline => setResult .done s
    | .busy _ => setResult .busy s
    | _ =>
      if (s.ch ch).runOutEnters && !s.hasPlace then setResult .busy s
      else
        let s1 := (dropRunOut ch (disposeForms ch s)).modCh ch Channel.disabled
        setResult .done (settleFrom s.freeCells (unbindWindows ch s1))

/-! ### QUERY (R150, R164) -/

/-- The answer words of a channel QUERY. -/
def channelAnswers (c : Channel) : List Word :=
  [BitVec.ofNat 16 c.unprintable, BitVec.ofNat 16 c.damaged, BitVec.ofNat 16 c.shiftLost,
    lastDroppedWord c.lastDropped, BitVec.ofNat 16 c.droppedStrikes, BitVec.ofNat 16 c.clipped,
    BitVec.ofNat 16 c.sheetsAccepted, BitVec.ofNat 16 c.forcedBreaks]

/-- The answer words of a link and device QUERY. -/
def deviceAnswers (s : State) : List Word :=
  [BitVec.ofNat 16 s.link.accepted, BitVec.ofNat 16 s.link.rejected,
    BitVec.ofNat 16 s.link.badFrames, BitVec.ofNat 16 s.link.ignoredReplies,
    BitVec.ofNat 16 s.link.losses, BitVec.ofNat 16 s.freeCells,
    BitVec.ofNat 16 s.queue.length, 0]

/-- The answers of a QUERY by its target; none for a target that names no group (R150). -/
def answersOf (target : Nat) (s : State) : Option (List Word) :=
  match channelOf target with
  | some ch => some (channelAnswers (s.ch ch))
  | none => if target = 4 then some (deviceAnswers s) else none

/-- A QUERY record checked and applied: the answers are taken and present (R150). -/
def applyQuery (r : ApplyRec) (s : State) : State :=
  match answersOf (r.num 1) s with
  | none => setResult .badValue s
  | some ws =>
    setResult .done { s with setup := { s.setup with answers := ws, answersPresent := true } }

/-! ### Applying (R138 to R142) -/

/-- A record applied: word 0 names a kind, no word the kind uses is damaged, then the kind's own checks
and effect (R142). -/
def applyRecord (r : ApplyRec) (s : State) : State :=
  match r.kind with
  | none => setResult .badKind s
  | some k =>
    if k.uses.any fun i => !(r.word i).complete then setResult .badValue s
    else
      match k with
      | .channel => applyChannel r s
      | .layout => applyLayout r s
      | .xlate => applyXlate r s
      | .glyph => applyGlyph r s
      | .link => applyLink r s
      | .disable => applyDisable r s
      | .query => applyQuery r s

/-- The words of a list of record words that lack a byte, to be fetched (R138). -/
def State.recordList (s : State) (r : ApplyRec) (ws : List Nat) : List FetchWord :=
  (ws.filter fun i => !(r.word i).complete).map fun i => ⟨s.wordAddr .setup i, .record i⟩

/-- The payload words to list once words 0 and 1 are settled; none for an unknown kind (R138, R139). -/
def State.payloadList (s : State) (r : ApplyRec) : List FetchWord :=
  match r.kind with
  | some k => s.recordList r k.payload
  | none => []

/-- The apply goes on: the record is applied when its list is empty and no fetch is outstanding,
otherwise the setup unit keeps its record and asks for places (R138, R139). -/
def goOnApply (r : ApplyRec) (s : State) : State :=
  if r.toFetch.isEmpty && decide (r.outstanding = 0) then
    applyRecord r { s with setup := { s.setup with apply := none } }
  else
    askPlaces .setup { s with setup := { s.setup with apply := some r, result := .pending } }

/-- A host write to word 18: starts nothing while an apply record exists; otherwise the record is copied
from the shadow, and words 0 and 1, or the payload words, that lack bytes are listed (R138). -/
def startApply (s : State) : State :=
  match s.setup.apply with
  | some _ => s
  | none =>
    let r : ApplyRec :=
      { words := (List.range 18).map fun i => s.copyWord (s.wordAddr .setup i)
        toFetch := [], outstanding := 0 }
    if (r.word 0).complete && (r.word 1).complete then
      goOnApply { r with toFetch := s.payloadList r } s
    else goOnApply { r with toFetch := s.recordList r [0, 1] } s

/-- Word 0 or 1 needs nothing more: it is complete, or damaged (R139). -/
def TakenWord.settled (t : TakenWord) : Bool := t.complete || t.damaged

/-- The setup unit takes a fetch's answer: the word is filled or damaged; once words 0 and 1 are settled
by an answer for one of them, the payload words are listed (R139). -/
def deliverRecord (i : Nat) (hi lo : Option Byte) (s : State) : State :=
  match s.setup.apply with
  | none => s
  | some r =>
    let r1 : ApplyRec :=
      { r with words := r.words.set i ((r.word i).fill true true hi lo)
               outstanding := r.outstanding - 1 }
    if i < 2 && (r1.word 0).settled && (r1.word 1).settled then
      goOnApply { r1 with toFetch := s.payloadList r1 } s
    else goOnApply r1 s

/-- A host write to a setup-window word: it ends any answers present, and at word 18 starts an apply
(R138, R151). -/
def setupWrite (offset : Nat) (s : State) : State :=
  let s1 := { s with setup := { s.setup with answersPresent := false } }
  if offset = 18 then startApply s1 else s1

end Sys2Proof.Machine
end

