-- ==== Sys2Proof/Machine/Path.lean ====
section
/-! DEFINITION. The memory path: forcing (R127, R128), reports (R121), the arbiter with the write hold and
the starvation guard (R132 to R134), locked cycles (R135), and the own cycles' start and end (R126,
R131, R132). -/

namespace Sys2Proof.Machine

/-! ### Forced reads (R127, R128) -/

/-- The word whose bits a forced read takes from the part: the value and, for each byte, whether any bit
of it is forced. -/
structure Forced where
  hi : Option Byte
  lo : Option Byte
  deriving DecidableEq, Repr

/-- The forced bytes of a read, over what memory returned for the high byte (R127). -/
def State.forced (s : State) (a : Addr) (memHi : Byte) : Forced :=
  match s.lookup a with
  | some (.control ch, 0) =>
    ⟨some (BitVec.ofBool (s.ch ch).state.isBusy ++ memHi.extractLsb' 0 7), none⟩
  | some (.control ch, 1) => ⟨some (s.ch ch).statusByte, none⟩
  | some (.setup, 19) =>
    ⟨some (hiByte s.setup.result.code), some (loByte s.setup.result.code)⟩
  | some (.setup, k) =>
    if s.setup.answersPresent && decide (2 ≤ k) && decide (k ≤ 9) then
      ⟨some (hiByte (s.setup.answers.getD (k - 2) 0)),
        some (loByte (s.setup.answers.getD (k - 2) 0))⟩
    else ⟨none, none⟩
  | _ => ⟨none, none⟩

/-- A byte of a read as returned: memory's byte where nothing is forced (R128). -/
def returnByte (mem : BusByte) : Option Byte → BusByte
  | some v => forceByte mem v
  | none => mem

/-- What the host receives for a read: memory's answer with the forced bytes put in; a no-response is
passed on and nothing is forced (R120, R127, R128). -/
def State.readReply (s : State) (a : Addr) : ReadAnswer → ReadAnswer
  | .noResponse => .noResponse
  | .data w =>
    let f := s.forced a w.hi.val
    .data ⟨returnByte w.hi f.hi, returnByte w.lo f.lo⟩

/-- Memory answered with a good high byte, so a status read is reported (R128). -/
def goodHigh : ReadAnswer → Bool
  | .data w => w.hi.good
  | .noResponse => false

/-- The report of a read: a status read that memory answered with a good high byte (R17, R121, R128);
every other read changes nothing in the part. -/
def reportRead (a : Addr) (ans : ReadAnswer) (s : State) : State :=
  match s.lookup a with
  | some (.control ch, 1) => if goodHigh ans then statusTaken ch s else s
  | _ => s

/-! ### Writes (R121, R125) -/

/-- The shadow's part of a host write: only a window's word has one (R120, R125). -/
def shadowWrite (w : BusWrite) (ans : WriteAnswer) (s : State) : State :=
  if (s.findWindow w.addr).isSome then { s with shadow := shadowHostWrite w ans s.shadow } else s

/-- The report of a write to the owner of its word, with the bytes as the host presented them (R121). -/
def reportWrite (w : BusWrite) (s : State) : State :=
  match s.lookup w.addr with
  | some (.control ch, 0) => commandWrite ch w s
  | some (.control ch, 3) => presetTally ch w s
  | some (.setup, k) => setupWrite k s
  | _ => s

/-- A write taken: memory has answered, the shadow is updated, the owner is told (R121, R125). -/
def writeTaken (w : BusWrite) (ans : WriteAnswer) (s : State) : State :=
  reportWrite w (shadowWrite w ans s)

/-! ### The arbiter (R132 to R134) -/

/-- The address of a cycle. -/
def cycleAddr : BusCycle → Addr
  | .read a => a
  | .write w => w.addr
  | .locked w => w.addr

/-- The cycle writes: a WRITE or a LOCKED READ-MODIFY-WRITE. -/
def cycleWrites : BusCycle → Bool
  | .read _ => false
  | _ => true

/-- A FETCH of the address waits in the queue or is in progress (R134). -/
def State.fetchPending (s : State) (a : Addr) : Bool :=
  s.ownQueue.any (OwnEntry.fetches a) || (s.ownCycle.map (OwnEntry.fetches a)).getD false

/-- The write hold holds the cycle: a write to a window's word of which a FETCH waits or is in progress
(R134); a cycle whose address lies in no window takes no part in it (R120). -/
def State.writeHold (s : State) (c : BusCycle) : Bool :=
  cycleWrites c && (s.findWindow (cycleAddr c)).isSome && s.fetchPending (cycleAddr c)

/-- The starvation guard holds the next host cycle: the head own cycle has been passed over 32 times
(R133). -/
def State.guardHold (s : State) : Bool :=
  decide (Config.guardLimit ≤ s.passedOver) && !s.ownQueue.isEmpty

/-- The arbiter lets a presented host cycle go: the memory side is free and nothing holds it (R132). -/
def State.canPass (s : State) (c : BusCycle) : Bool :=
  s.ownCycle.isNone && !s.guardHold && !s.writeHold c

/-- A host cycle is given the memory side: the passed-over count rises while the queue holds a head
entry, and the cycle is put onto the memory side as it came (R120, R133). -/
def giveMemory (c : BusCycle) (s : State) : State :=
  { s with
    passedOver := if s.ownQueue.isEmpty then s.passedOver else s.passedOver + 1
    memDrive := some c }

/-- A host cycle passed, with memory's answers: a read is forced, returned and reported; a write updates
the shadow and is reported; a locked cycle does both in the order of its halves (R120, R121, R135). -/
def passCycle (c : BusCycle) (ans : CycleAnswer) (s : State) : State :=
  let s1 := giveMemory c s
  match c with
  | .read a =>
    reportRead a ans.read
      { s1 with hostReply := some ⟨some (s1.readReply a ans.read), none⟩ }
  | .write w =>
    writeTaken w ans.write { s1 with hostReply := some ⟨none, some ans.write⟩ }
  | .locked w =>
    writeTaken w ans.write
      (reportRead w.addr ans.read
        { s1 with hostReply := some ⟨some (s1.readReply w.addr ans.read), some ans.write⟩ })

/-- The host presents a cycle: it passes when the arbiter lets it go, and otherwise waits, presented. The
host bus presents one cycle at a time: while one waits, no other can be presented (07, 7.1; log
entry 4). -/
def presentCycle (c : BusCycle) (ans : CycleAnswer) (s : State) : State :=
  match s.presented with
  | some _ => s
  | none =>
    if s.canPass c then passCycle c ans s
    else { s with presented := some c, hostReply := none }

/-- The presented cycle passes once nothing holds it (R132 to R134). -/
def passPresented (ans : CycleAnswer) (s : State) : State :=
  match s.presented with
  | none => s
  | some c => if s.canPass c then passCycle c ans { s with presented := none } else s

/-- The host presents a write; its read half does not exist. -/
def presentWrite (w : BusWrite) (ans : WriteAnswer) (s : State) : State :=
  presentCycle (.write w) ⟨.noResponse, ans⟩ s

/-! ### Own cycles (R126, R131, R132) -/

/-- The host presents a cycle that counts: one held by the guard or by the write hold counts as not
presented (R132). -/
def State.hostFirst (s : State) : Bool :=
  match s.presented with
  | none => false
  | some c => !s.guardHold && !s.writeHold c

/-- The head own cycle begins when the memory side is free and no host cycle is presented: it leaves the
queue, the passed-over count starts again, and a freed fetch place is granted (R129, R130, R132,
R133). -/
def startOwnCycle (s : State) : State :=
  match s.ownCycle, s.ownQueue with
  | none, e :: rest =>
    if s.hostFirst then s
    else
      let s1 := { s with ownQueue := rest, ownCycle := some e, passedOver := 0
                         memDrive := some e.cycle }
      if e.isFetch then grantPlace s1 else s1
  | _, _ => s

/-- A FETCH's answer delivered to its requester's record; one whose operation is gone is discarded
(R126). -/
def deliver (req : Requester) (dest : Dest) (hi lo : Option Byte) (s : State) : State :=
  match req with
  | .operation ch =>
    match (s.ch ch).state with
    | .busy op =>
      match op.stage with
      | .takingLine r => deliverLine ch op.vp r dest hi lo s
      | .takingTape r => deliverTape ch r dest hi lo s
      | _ => s
    | _ => s
  | .setup =>
    match dest with
    | .record i => deliverRecord i hi lo s
    | _ => s
  | .abandoned _ => s

/-- Memory answers the FETCH in progress: the own cycle ends, the shadow of its word is updated, and the
answer is delivered (R126). -/
def endFetch (ans : ReadAnswer) (s : State) : State :=
  match s.ownCycle with
  | some (.fetch req w) =>
    deliver req w.dest ans.taken.1 ans.taken.2
      ({ s with ownCycle := none }.shadowOwn w.addr ans.taken.1 ans.taken.2)
  | _ => s

/-- Memory answers the TALLY-WRITE in progress: the own cycle ends, and the shadow of its word takes the
value, or is invalid when memory did not answer (R131). -/
def endTallyWrite (ans : WriteAnswer) (s : State) : State :=
  match s.ownCycle with
  | some (.tally _ a v) =>
    let s1 := { s with ownCycle := none }
    match ans with
    | .accepted => s1.shadowOwn a (some (hiByte v)) (some (loByte v))
    | .noResponse => s1.shadowOwn a none none
  | _ => s

/-- A free fetch place is granted to the head of the place-wait list (R130). -/
def grantFree (s : State) : State := if 0 < s.freeFetchPlaces then grantPlace s else s

end Sys2Proof.Machine
end

