-- ==== Sys2Proof/Machine/Commands.lean ====
section
/-! DEFINITION. The commands that are command-word writes making a GO (R4 to R10). The write goes through
the arbiter, the shadow and the merged command value like every write; `takeGo` then dispatches the GO
by its flags and its kind. -/

namespace Sys2Proof.Machine

/-- CLEAR (R8): the GO comes to `goClear`. -/
def execClear (w : BusWrite) (ans : WriteAnswer) (s : State) : Host.Outcome State Fault Refusal :=
  .next (presentWrite w ans s)

/-- LOAD_TAPE (R9): the GO comes to `goLoad`. -/
def execLoadTape (w : BusWrite) (ans : WriteAnswer) (s : State) :
    Host.Outcome State Fault Refusal :=
  .next (presentWrite w ans s)

/-- PRINT_THEN_SPACE (R10): the GO comes to `goMove` with kind print then space. -/
def execPrintThenSpace (w : BusWrite) (ans : WriteAnswer) (s : State) :
    Host.Outcome State Fault Refusal :=
  .next (presentWrite w ans s)

/-- PRINT_THEN_SKIP (R10, R50): the GO comes to `goMove` with kind print then skip. -/
def execPrintThenSkip (w : BusWrite) (ans : WriteAnswer) (s : State) :
    Host.Outcome State Fault Refusal :=
  .next (presentWrite w ans s)

/-- SPACE_ONLY (R10, R49): the GO comes to `goMove` with kind space only. -/
def execSpaceOnly (w : BusWrite) (ans : WriteAnswer) (s : State) :
    Host.Outcome State Fault Refusal :=
  .next (presentWrite w ans s)

/-- SKIP_ONLY (R10, R50): the GO comes to `goMove` with kind skip only. -/
def execSkipOnly (w : BusWrite) (ans : WriteAnswer) (s : State) :
    Host.Outcome State Fault Refusal :=
  .next (presentWrite w ans s)

end Sys2Proof.Machine
end

