-- ==== Sys2Proof/Machine/FormEvents.lean ====
section
/-! DEFINITION. The commands of the form store and of the room-wait list, each by itself (log entry 9). -/

namespace Sys2Proof.Machine

/-- CELL_WAIT_RETRY: the wait list is retried, and the forced-break test follows (R69, R75). -/
def execCellWaitRetry (s : State) : Host.Outcome State Fault Refusal := .next (afterFreeing s)

/-- The first claimant of the room-wait list that can be taken while the queue has a free place (R100). -/
def firstClaim (s : State) : Option Claim :=
  if s.hasPlace then s.roomWait.find? fun x => claimTakable x s else none

/-- A claimant taken, with the retries of the cells that its entry clips (R92, R100). -/
def claimAlone (x : Claim) (s : State) : State := settleFrom s.freeCells (takeClaim x s)

/-- ROOM_WAIT_MOVE: a free place is offered, and it falls to a move: the move is made, with its close,
queue entry and completion (R54, R100). -/
def execRoomWaitMove (s : State) : Host.Outcome State Fault Refusal :=
  match firstClaim s with
  | some (.move ch) => .next (claimAlone (.move ch) s)
  | _ => .next s

/-- RUN_OUT of a channel: the channel's tick that brings its run-out counter to 0 (R77, R78, R153); a
channel whose counter this tick does not bring to 0 has no such event, and nothing happens (log
entry 8). -/
def execRunOut (ch : ChannelId) (s : State) : Host.Outcome State Fault Refusal :=
  if (s.ch ch).runOutCounts && decide ((s.ch ch).runOut = 1) then .next (channelTick ch s)
  else .next s

/-- ROOM_WAIT_RUN_OUT: a free place is offered, and it falls to a run-out action held due, which is taken
(R78, R100). -/
def execRoomWaitRunOut (s : State) : Host.Outcome State Fault Refusal :=
  match firstClaim s with
  | some (.runOut ch) => .next (claimAlone (.runOut ch) s)
  | _ => .next s

end Sys2Proof.Machine
end

