-- ==== Sys2Proof/Machine/HostCycles.lean ====
section
/-! DEFINITION. The commands that are host cycles. The part sees a cycle, not a row's name: each command
presents its cycle to the arbiter, and the cycle's address and data and the part's state decide what it
does (R120, R121; log entry 5). -/

namespace Sys2Proof.Machine

/-- HOST_CYCLE_PASS_THROUGH: a host READ or WRITE (R120). -/
def execHostCyclePassThrough (cycle : BusCycle) (ans : CycleAnswer) (s : State) :
    Host.Outcome State Fault Refusal :=
  .next (presentCycle cycle ans s)

/-- HOST_WINDOW_WRITE: a host write to a window word (R121, R125). -/
def execHostWindowWrite (w : BusWrite) (ans : WriteAnswer) (s : State) :
    Host.Outcome State Fault Refusal :=
  .next (presentWrite w ans s)

/-- LOCKED_READ_MODIFY_WRITE (R135). -/
def execLockedReadModifyWrite (w : BusWrite) (ans : CycleAnswer) (s : State) :
    Host.Outcome State Fault Refusal :=
  .next (presentCycle (.locked w) ans s)

/-- STATUS_READ: a host read of a status word (R16, R17, R127, R128). -/
def execStatusRead (addr : Addr) (ans : ReadAnswer) (s : State) :
    Host.Outcome State Fault Refusal :=
  .next (presentCycle (.read addr) ⟨ans, .noResponse⟩ s)

/-- TALLY_PRESET: a host write to a tally word (R20). -/
def execTallyPreset (w : BusWrite) (ans : WriteAnswer) (s : State) :
    Host.Outcome State Fault Refusal :=
  .next (presentWrite w ans s)

/-- HELD_HOST_CYCLE_PASS: the presented cycle is passed and reported (R132 to R134). -/
def execHeldHostCyclePass (ans : CycleAnswer) (s : State) : Host.Outcome State Fault Refusal :=
  .next (passPresented ans s)

end Sys2Proof.Machine
end

