-- ==== Sys2Proof/Machine/LinkControl.lean ====
section
/-! DEFINITION. The link controller: the receiver, training, replies, emission, ticks and loss
(R101 to R119). -/

namespace Sys2Proof.Machine

/-! ### Replies -/

/-- The head sheet's attempts set to a value (R113, R117). -/
def setAttempts (n : Nat) (s : State) : State :=
  match s.queue with
  | [] => s
  | sh :: rest => { s with queue := { sh with attempts := n } :: rest }

/-- The backoff after a number of attempts: 2 to the smaller of attempts and 6 (R113). -/
def backoffTicks (attempts : Nat) : Nat := 2 ^ min attempts 6

/-- A failed attempt of the head sheet: attempts rise by 1; at 16 the sheet is held for the operator,
otherwise the link backs off (R113). -/
def failAttempt (s : State) : State :=
  match s.queue with
  | [] => s
  | sh :: _ =>
    let s1 := setAttempts (sh.attempts + 1) s
    if sh.attempts + 1 = Config.attemptLimit then
      { s1 with link := { s1.link with state := .waitOperator, replyTimer := 0 } }
    else
      { s1 with link := { s1.link with state := .backoff, replyTimer := 0
                                       backoffTimer := backoffTicks (sh.attempts + 1) } }

/-- The head sheet leaves the queue: its place is offered to the room-wait list, its cells are freed with
the retries and the forced-break test following, and the link goes to IDLE-UP (R101). -/
def leaveQueue (s : State) : State :=
  match s.queue with
  | [] => s
  | sh :: rest =>
    let s1 := offerPlace { s with queue := rest, link := { s.link with replyTimer := 0 } }
    startSheet (afterFreeing { s1 with freeCells := s1.freeCells + sh.cellCount })

/-- A matching ACCEPT: both accepted counters rise and the sheet leaves (R111). -/
def acceptSheet (sh : Sheet) (s : State) : State :=
  let s1 := s.modCh sh.channel fun c => { c with sheetsAccepted := satAdd c.sheetsAccepted 1 }
  leaveQueue { s1 with link := { s1.link with accepted := satAdd s1.link.accepted 1 } }

/-- The channel is OFFLINE. -/
def ChState.isOffline : ChState → Bool
  | .offline => true
  | _ => false

/-- A matching REJECT: the rejected counter rises, CHECK is set on the sheet's channel unless it is
OFFLINE, and the sheet leaves (R112). -/
def rejectSheet (sh : Sheet) (s : State) : State :=
  let s1 := s.modCh sh.channel fun c => if c.state.isOffline then c else { c with check := true }
  leaveQueue { s1 with link := { s1.link with rejected := satAdd s1.link.rejected 1 } }

/-- An ignored reply is counted and changes nothing else (R116). -/
def ignoreReply (s : State) : State :=
  { s with link := { s.link with ignoredReplies := satAdd s.link.ignoredReplies 1 } }

/-- A reply naming a sheet number: acted on in AWAITING when the number is the head sheet's, otherwise
ignored and counted (R111 to R113, R116). -/
def takeReply (kind : ReplyKind) (number : Word) (s : State) : State :=
  match s.link.state, s.queue with
  | .awaiting, sh :: _ =>
    if sh.number = number then
      match kind with
      | .accept => acceptSheet sh s
      | .reject => rejectSheet sh s
      | .busy => failAttempt s
      | .pulse => s
    else ignoreReply s
  | _, _ => ignoreReply s

/-! ### Receiving (R103, R104) -/

/-- A valid frame taken as life: the silence counter is zeroed, and it advances training, the third
valid frame bringing the link up (R104). -/
def takeLife (s : State) : State :=
  match s.link.state with
  | .down => { s with link := { s.link with silence := 0, state := .training, pulses := 1 } }
  | .training =>
    let s1 := { s with link := { s.link with silence := 0, pulses := s.link.pulses + 1 } }
    if s.link.pulses + 1 = Config.trainFrames then startSheet s1 else s1
  | _ => { s with link := { s.link with silence := 0 } }

/-- A valid frame handed to the link controller: life first, then its kind; a PULSE needs nothing more
(R104). -/
def takeFrame (kind : ReplyKind) (payload : List Byte) (s : State) : State :=
  let s1 := takeLife s
  match kind with
  | .pulse => s1
  | k => takeReply k (wordOf (payload.getD 0 0) (payload.getD 1 0)) s1

/-- A bad frame is counted and counts as no life (R103). -/
def countBadFrame (s : State) : State :=
  { s with link := { s.link with badFrames := satAdd s.link.badFrames 1 } }

/-- The receiver replaced. -/
def setReceiver (r : Receiver) (s : State) : State :=
  { s with link := { s.link with receiver := r } }

/-- The payload length that a frame's bytes, from its kind byte on, give (R103). -/
def bodyLength (bytes : List Byte) : Nat := (wordOf (bytes.getD 1 0) (bytes.getD 2 0)).toNat

/-- A frame whose last CRC byte has been taken: valid when its kind is a printer's, its length is the
kind's and its CRC is right (R103, R165, R166). -/
def checkFrame (bytes : List Byte) : Option (ReplyKind × List Byte) :=
  let len := bodyLength bytes
  match replyKindOf (bytes.getD 0 0) with
  | none => none
  | some k =>
    if len = k.length ∧
        crc16 (bytes.take (3 + len)) = wordOf (bytes.getD (3 + len) 0) (bytes.getD (4 + len) 0) then
      some (k, (bytes.drop 3).take len)
    else none

/-- One byte taken in IN-FRAME: a length over 1,500 is bad at its second byte; at the last CRC byte the
frame is valid or bad; either way the receiver returns to HUNTING (R103). -/
def receiveInFrame (bytes : List Byte) (s : State) : State :=
  if bytes.length < 3 then setReceiver (.inFrame bytes) s
  else if Config.maxPayload < bodyLength bytes then
    countBadFrame (setReceiver (.hunting false) s)
  else if bytes.length < 5 + bodyLength bytes then setReceiver (.inFrame bytes) s
  else
    match checkFrame bytes with
    | some (k, payload) => takeFrame k payload (setReceiver (.hunting false) s)
    | none => countBadFrame (setReceiver (.hunting false) s)

/-- One byte taken by the receiver: in HUNTING a start byte right after a preamble byte begins a frame,
and every other byte is discarded (R103). -/
def receiveByte (s : State) (b : Byte) : State :=
  match s.link.receiver with
  | .hunting afterPreamble =>
    if afterPreamble && decide (b = startByte) then setReceiver (.inFrame []) s
    else setReceiver (.hunting (decide (b = preambleByte))) s
  | .inFrame bytes => receiveInFrame (bytes ++ [b]) s

/-- A run of bytes taken one by one (R103). -/
def receive (bytes : List Byte) (s : State) : State := bytes.foldl receiveByte s

/-! ### Emission (R107 to R109) -/

/-- The next ROW frame of the emission is built with the codes as they stand, and sent (R108). -/
def sendRow (s : State) : State :=
  match s.link.state, s.queue with
  | .sending, sh :: _ =>
    match sh.rows[s.link.rowsSent]? with
    | some l =>
      { s with link := { s.link with rowsSent := s.link.rowsSent + 1 }
               linkSend := rowFrame s.setup.glyphCodes sh l }
    | none => s
  | _, _ => s

/-- The last byte of SHEET-END is sent, after every ROW: the link goes to AWAITING and the reply timer is
loaded (R109). -/
def sendEnd (s : State) : State :=
  match s.link.state, s.queue with
  | .sending, sh :: _ =>
    if sh.rows.length ≤ s.link.rowsSent then
      { s with link := { s.link with state := .awaiting, replyTimer := s.link.replyTimeout }
               linkSend := sheetEndFrame sh }
    else s
  | _, _ => s

/-! ### Ticks, loss, START (R105, R109, R115, R117) -/

/-- A link loss: transmission stops, the head returns to QUEUED with its attempts, the timers are
dropped, the receiver hunts, the loss is counted (R103, R105). A receiver that was hunting already forgets
that its last byte was a preamble byte (DESIGN CHOICE, unsafe: log entry 28). -/
def loseLink (s : State) : State :=
  { s with link := { s.link with
      state := .down, rowsSent := 0, silence := 0, pulses := 0, replyTimer := 0, backoffTimer := 0
      receiver := .hunting false, losses := satAdd s.link.losses 1 } }

/-- The tick brings the silence counter to 3 (R105). -/
def tickLoses (s : State) : Bool :=
  decide (s.link.state ≠ .down) && decide (Config.silenceLimit ≤ s.link.silence + 1)

/-- The tick, no loss tick, brings the reply timer to 0 in AWAITING (R109). -/
def tickExpires (s : State) : Bool :=
  decide (s.link.state = .awaiting) && !tickLoses s && decide (s.link.replyTimer ≤ 1)

/-- The tick, no loss tick, brings the backoff timer to 0 in BACKOFF (R115). -/
def tickEndsBackoff (s : State) : Bool :=
  decide (s.link.state = .backoff) && !tickLoses s && decide (s.link.backoffTimer ≤ 1)

/-- A tick taken by the link controller: nothing in DOWN; a loss at silence 3; otherwise the silence
counter rises, and the reply timer in AWAITING or the backoff timer in BACKOFF is decremented, its
reaching 0 taken in the same event (R105, R109, R113, R115). -/
def tickLink (s : State) : State :=
  if s.link.state = .down then s
  else if tickLoses s then loseLink s
  else
    let s1 := { s with link := { s.link with silence := s.link.silence + 1 } }
    match s.link.state with
    | .awaiting =>
      let s2 := { s1 with link := { s1.link with replyTimer := s1.link.replyTimer - 1 } }
      if tickExpires s then failAttempt s2 else s2
    | .backoff =>
      let s2 := { s1 with link := { s1.link with backoffTimer := s1.link.backoffTimer - 1 } }
      if tickEndsBackoff s then resendSheet s2 else s2
    | _ => s1

/-- A START delivered to the link controller releases a link in WAIT-OPERATOR: attempts 0, then IDLE-UP
and a whole new emission (R117). -/
def startLink (s : State) : State :=
  if s.link.state = .waitOperator then startSheet (setAttempts 0 s) else s

end Sys2Proof.Machine
end

