-- ==== Sys2Proof/Machine/LinkEvents.lean ====
section
/-! DEFINITION. The commands of the print link. A printer frame arrives as its bytes, which the receiver
takes one by one from the state it is in (R103; log entry 14). -/

namespace Sys2Proof.Machine

/-- PULSE (R104): a PULSE frame arrives. -/
def execPulse (s : State) : Host.Outcome State Fault Refusal :=
  .next (receive (frameBytes ReplyKind.pulse.code []) s)

/-- ACCEPT (R111): an ACCEPT frame naming a sheet arrives. -/
def execAccept (number : Word) (s : State) : Host.Outcome State Fault Refusal :=
  .next (receive (frameBytes ReplyKind.accept.code (fieldBytes number)) s)

/-- REJECT (R112): a REJECT frame naming a sheet arrives, with its reason byte. -/
def execReject (number : Word) (reason : Byte) (s : State) : Host.Outcome State Fault Refusal :=
  .next (receive (frameBytes ReplyKind.reject.code (fieldBytes number ++ [reason])) s)

/-- BUSY (R113): a BUSY frame naming a sheet arrives. -/
def execBusy (number : Word) (s : State) : Host.Outcome State Fault Refusal :=
  .next (receive (frameBytes ReplyKind.busy.code (fieldBytes number)) s)

/-- BAD_FRAME (R103): bytes arrive; where they make up a frame with a bad length, kind or CRC it is
discarded and counted. -/
def execBadFrame (bytes : List Byte) (s : State) : Host.Outcome State Fault Refusal :=
  .next (receive bytes s)

/-- ROW (R108). -/
def execRow (s : State) : Host.Outcome State Fault Refusal := .next (sendRow s)

/-- SHEET_END (R109). -/
def execSheetEnd (s : State) : Host.Outcome State Fault Refusal := .next (sendEnd s)

end Sys2Proof.Machine
end

