-- ==== Sys2Proof/Machine/OwnCycles.lean ====
section
/-! DEFINITION. The commands of the own-cycle queue (R126, R130 to R132). -/

namespace Sys2Proof.Machine

/-- OWN_CYCLE_START (R132). -/
def execOwnCycleStart (s : State) : Host.Outcome State Fault Refusal := .next (startOwnCycle s)

/-- FETCH_PLACE_GRANT (R130). -/
def execFetchPlaceGrant (s : State) : Host.Outcome State Fault Refusal := .next (grantFree s)

/-- FETCH_ANSWER (R126). -/
def execFetchAnswer (ans : ReadAnswer) (s : State) : Host.Outcome State Fault Refusal :=
  .next (endFetch ans s)

/-- TALLY_WRITE (R131). -/
def execTallyWrite (ans : WriteAnswer) (s : State) : Host.Outcome State Fault Refusal :=
  .next (endTallyWrite ans s)

end Sys2Proof.Machine
end

