-- ==== Sys2Proof/Machine/PanelEvents.lean ====
section
/-! DEFINITION. The panel: recognized switches, the selector, and STOP, START and EJECT at a channel
(R154 to R160). -/

namespace Sys2Proof.Machine

/-- The recognized state of a switch (R154). -/
def Panel.contact (p : Panel) : PanelSwitch → Contact
  | .stop => p.stopSwitch
  | .start => p.startSwitch
  | .eject => p.ejectSwitch

/-- The recognized state of a switch replaced (R154). -/
def Panel.setContact (p : Panel) (sw : PanelSwitch) (c : Contact) : Panel :=
  match sw with
  | .stop => { p with stopSwitch := c }
  | .start => { p with startSwitch := c }
  | .eject => { p with ejectSwitch := c }

/-- The recognized state of a switch replaced in the state. -/
def setContact (sw : PanelSwitch) (c : Contact) (s : State) : State :=
  { s with panel := s.panel.setContact sw c }

/-- A switch closed for 20 ms: a change from OPEN to CLOSED is a press and makes its event with the
selector's value; a switch recognized CLOSED already makes none (R154, R155). -/
def press (sw : PanelSwitch) (event : ChannelId → State → State) (s : State) : State :=
  match s.panel.contact sw with
  | .closed => s
  | .opened => event s.panel.selector (setContact sw .closed s)

/-- A STOP taken by a channel controller (R157). -/
def stopChannel (ch : ChannelId) (s : State) : State :=
  s.modCh ch fun c =>
    match c.state with
    | .idle => { c with state := .stopped }
    | .busy _ => { c with pendStop := true }
    | _ => c

/-- A START taken by a channel controller (R158). -/
def startChannel (ch : ChannelId) (s : State) : State :=
  s.modCh ch fun c =>
    match c.state with
    | .busy _ => { c with pendStop := false }
    | .stopped => { c with state := .idle }
    | _ => c

/-- A START event: the channel controller and the link controller each take it (R156, R158). -/
def startEvent (ch : ChannelId) (s : State) : State := startLink (startChannel ch s)

/-- An EJECT taken by a channel controller: with movement to make it starts a panel operation from IDLE
or STOPPED, from STOPPED setting the pending STOP; in BUSY it is held pending (R15, R159). -/
def ejectChannel (ch : ChannelId) (s : State) : State :=
  match (s.ch ch).state with
  | .idle =>
    if (s.ch ch).ejectMoves then settleFrom s.freeCells (startEject ch s) else s
  | .stopped =>
    if (s.ch ch).ejectMoves then
      settleFrom s.freeCells (startEject ch (s.modCh ch fun c => { c with pendStop := true }))
    else s
  | .busy _ => s.modCh ch fun c => { c with pendEject := true }
  | _ => s

/-- STOP (R157). -/
def execStop (s : State) : Host.Outcome State Fault Refusal := .next (press .stop stopChannel s)

/-- START (R158, R117). -/
def execStart (s : State) : Host.Outcome State Fault Refusal := .next (press .start startEvent s)

/-- EJECT (R159). -/
def execEject (s : State) : Host.Outcome State Fault Refusal :=
  .next (press .eject ejectChannel s)

/-- SELECTOR_CHANGE: the selector takes the position it has rested in (R155). -/
def execSelectorChange (position : ChannelId) (s : State) : Host.Outcome State Fault Refusal :=
  .next { s with panel := { s.panel with selector := position } }

/-- SWITCH_RELEASE: a switch open for 20 ms is recognized OPEN and makes no event (R154). -/
def execSwitchRelease (sw : PanelSwitch) (s : State) : Host.Outcome State Fault Refusal :=
  .next (setContact sw .opened s)

end Sys2Proof.Machine
end

