-- ==== Sys2Proof/Machine/SetupRecords.lean ====
section
/-! DEFINITION. The commands that are apply-word writes (R138). The write goes through the arbiter and the
shadow like every write; `startApply` then takes the record from the shadow and `applyRecord` checks and
applies it by its kind (R142). -/

namespace Sys2Proof.Machine

/-- PENDING (R138): record bytes are missing, fetches are listed and the result is PENDING. -/
def execPending (w : BusWrite) (ans : WriteAnswer) (s : State) : Host.Outcome State Fault Refusal :=
  .next (presentWrite w ans s)

/-- BAD_KIND (R142, check 1). -/
def execBadKind (w : BusWrite) (ans : WriteAnswer) (s : State) : Host.Outcome State Fault Refusal :=
  .next (presentWrite w ans s)

/-- CHANNEL (R143, R144): the record comes to `applyChannel`. -/
def execChannel (w : BusWrite) (ans : WriteAnswer) (s : State) : Host.Outcome State Fault Refusal :=
  .next (presentWrite w ans s)

/-- LAYOUT (R83, R84, R145): the record comes to `applyLayout`. -/
def execLayout (w : BusWrite) (ans : WriteAnswer) (s : State) : Host.Outcome State Fault Refusal :=
  .next (presentWrite w ans s)

/-- XLATE (R147): the record comes to `applyXlate`. -/
def execXlate (w : BusWrite) (ans : WriteAnswer) (s : State) : Host.Outcome State Fault Refusal :=
  .next (presentWrite w ans s)

/-- GLYPH (R148): the record comes to `applyGlyph`. -/
def execGlyph (w : BusWrite) (ans : WriteAnswer) (s : State) : Host.Outcome State Fault Refusal :=
  .next (presentWrite w ans s)

/-- LINK (R146): the record comes to `applyLink`. -/
def execLink (w : BusWrite) (ans : WriteAnswer) (s : State) : Host.Outcome State Fault Refusal :=
  .next (presentWrite w ans s)

/-- DISABLE (R79, R149): the record comes to `applyDisable`. -/
def execDisable (w : BusWrite) (ans : WriteAnswer) (s : State) : Host.Outcome State Fault Refusal :=
  .next (presentWrite w ans s)

/-- QUERY (R150): the record comes to `applyQuery`. -/
def execQuery (w : BusWrite) (ans : WriteAnswer) (s : State) : Host.Outcome State Fault Refusal :=
  .next (presentWrite w ans s)

end Sys2Proof.Machine
end

