-- ==== Sys2Proof/Machine/Reset.lean ====
section
/-! DEFINITION. Power-on (R2, R122) and host bus reset (R22, R40, R57, R70, R136, R141). -/

namespace Sys2Proof.Machine

/-- Power applied with a strap value: the power-on state, its setup window where the straps put it. The
queue of commands that wait is the model's own and stays (log entry 16). -/
def powerOnWith (straps : BitVec 4) (s : State) : State :=
  { State.reset with windows := [⟨setupBase straps, .setup⟩], pending := s.pending }

/-- A channel's registers after a host bus reset: BUSY and HALTED go to IDLE, the flags, the request and
the pending panel actions are dropped, the merged value, the previous sample and the stall counter
are 0; everything else is kept (R3, R22). -/
def Channel.hostReset (c : Channel) : Channel :=
  { c with
    state := match c.state with
      | .busy _ => .idle
      | .halted => .idle
      | st => st
    done := false, reject := false, check := false, formStop := false, request := false
    pendStop := false, pendEject := false, merged := 0, prevSample := 0, stall := 0 }

/-- The fetch in progress of an abandoned operation keeps going, but nobody takes its answer (R40, R57,
R126, R136). -/
def abandonFetch (ch : ChannelId) : OwnEntry → OwnEntry
  | .fetch req w => .fetch (if req = .operation ch then .abandoned ch else req) w
  | .tally c a v => .tally c a v

/-- A channel controller takes the reset: its operation is abandoned and leaves every wait list (R22,
R70, R100, R136). -/
def resetChannel (ch : ChannelId) (s : State) : State :=
  { s.modCh ch Channel.hostReset with
    cellWait := s.cellWait.filter fun x => decide (x ≠ ch)
    roomWait := s.roomWait.filter fun x => decide (x ≠ .move ch)
    placeWait := s.placeWait.filter fun x => decide (x ≠ .operation ch)
    ownCycle := s.ownCycle.map (abandonFetch ch) }

/-- A channel controller takes the reset by itself: when its line was the head waiting line, the new head
is tried at once (R70). -/
def resetInTurn (s : State) (ch : ChannelId) : State :=
  if s.cellWait.head? = some ch then afterFreeing (resetChannel ch s) else resetChannel ch s

/-- The path unit's part of a reset: an unpassed host cycle is withdrawn, every waiting FETCH is removed,
and the passed-over count starts again (R136). -/
def resetPath (s : State) : State :=
  { s with
    presented := none
    ownQueue := s.ownQueue.filter fun e => !e.isFetch
    passedOver := 0 }

/-- The words of the setup unit's FETCHes that wait in a queue. -/
def setupFetches (q : List OwnEntry) : List FetchWord :=
  q.filterMap fun e =>
    match e with
    | .fetch .setup w => some w
    | _ => none

/-- The setup unit's removed words go back on its list, in ascending address order (R141). -/
def relistSetup (removed : List FetchWord) (s : State) : State :=
  match s.setup.apply with
  | none => s
  | some r =>
    { s with setup := { s.setup with
        apply := some { r with
          toFetch := List.insertionSort (fun a b => a.addr.toNat ≤ b.addr.toNat)
            (removed ++ r.toFetch)
          outstanding := r.outstanding - removed.length } } }

/-- The places freed by the reset are granted to the requesters still on the place-wait list; the setup
unit joins it when it has words listed and is not on it (R136, R141). -/
def regrant (s : State) : State :=
  if s.placeWait.isEmpty then askPlaces .setup s
  else
    grantPlaces s.freeFetchPlaces
      (if (s.listed .setup).isEmpty || s.placeWait.contains .setup then s
       else { s with placeWait := s.placeWait ++ [.setup] })

/-- A host bus reset: the path unit withdraws what belonged to abandoned operations, the channel
controllers take it in the order given and the others together, and freed fetch places are granted
(R22, R136; log entry 12). -/
def hostReset (order : List ChannelId) (s : State) : State :=
  let s1 := relistSetup (setupFetches s.ownQueue) (resetPath s)
  let s2 := order.foldl resetInTurn s1
  regrant (allChannels.foldl (fun acc ch => resetChannel ch acc) s2)

end Sys2Proof.Machine
end

