-- ==== Sys2Proof/Machine/System.lean ====
section
/-! DEFINITION. The commands POWER_ON and HOST_BUS_RESET. -/

namespace Sys2Proof.Machine

/-- POWER_ON (R2, R60, R97, R102, R122, R124, R136, R137). -/
def execPowerOn (straps : BitVec 4) (s : State) : Host.Outcome State Fault Refusal :=
  .next (powerOnWith straps s)

/-- HOST_BUS_RESET (R22, R136). -/
def execHostBusReset (order : List ChannelId) (s : State) : Host.Outcome State Fault Refusal :=
  .next (hostReset order s)

end Sys2Proof.Machine
end

