-- ==== Sys2Proof/Machine/Ticks.lean ====
section
/-! DEFINITION. The commands that are ticks (R152, R153, R105). A tick at the link controller is LINK_TICK
whatever it brings about; LINK_LOSS, REPLY_TIMER_EXPIRY and BACKOFF_END name the tick that brings that
event about, and where the tick would not, there is no such event and nothing happens (log entry 8). -/

namespace Sys2Proof.Machine

/-- CHANNEL_TICK (R153). -/
def execChannelTick (ch : ChannelId) (s : State) : Host.Outcome State Fault Refusal :=
  .next (channelTick ch s)

/-- LINK_TICK (R105, R109, R115). -/
def execLinkTick (s : State) : Host.Outcome State Fault Refusal := .next (tickLink s)

/-- LINK_LOSS: the tick that brings the silence counter to 3 (R105). -/
def execLinkLoss (s : State) : Host.Outcome State Fault Refusal :=
  if tickLoses s then .next (tickLink s) else .next s

/-- REPLY_TIMER_EXPIRY: the tick that brings the reply timer to 0 (R109, R113). -/
def execReplyTimerExpiry (s : State) : Host.Outcome State Fault Refusal :=
  if tickExpires s then .next (tickLink s) else .next s

/-- BACKOFF_END: the tick that brings the backoff timer to 0 (R115). -/
def execBackoffEnd (s : State) : Host.Outcome State Fault Refusal :=
  if tickEndsBackoff s then .next (tickLink s) else .next s

end Sys2Proof.Machine
end

