-- ==== Sys2Proof/Machine/Dispatch.lean ====
section
/-! DEFINITION. What each command does: one arm per constructor of Instr. -/

namespace Sys2Proof.Machine

def exec (i : Instr) (s : State) : Host.Outcome State Fault Refusal :=
  match i with
  | .powerOn straps => Sys2Proof.Machine.execPowerOn straps s
  | .hostBusReset order => Sys2Proof.Machine.execHostBusReset order s
  | .hostCyclePassThrough cycle ans => Sys2Proof.Machine.execHostCyclePassThrough cycle ans s
  | .hostWindowWrite w ans => Sys2Proof.Machine.execHostWindowWrite w ans s
  | .lockedReadModifyWrite w ans => Sys2Proof.Machine.execLockedReadModifyWrite w ans s
  | .statusRead addr ans => Sys2Proof.Machine.execStatusRead addr ans s
  | .tallyPreset w ans => Sys2Proof.Machine.execTallyPreset w ans s
  | .clear w ans => Sys2Proof.Machine.execClear w ans s
  | .loadTape w ans => Sys2Proof.Machine.execLoadTape w ans s
  | .printThenSpace w ans => Sys2Proof.Machine.execPrintThenSpace w ans s
  | .printThenSkip w ans => Sys2Proof.Machine.execPrintThenSkip w ans s
  | .spaceOnly w ans => Sys2Proof.Machine.execSpaceOnly w ans s
  | .skipOnly w ans => Sys2Proof.Machine.execSkipOnly w ans s
  | .cellWaitRetry => Sys2Proof.Machine.execCellWaitRetry s
  | .roomWaitMove => Sys2Proof.Machine.execRoomWaitMove s
  | .runOut ch => Sys2Proof.Machine.execRunOut ch s
  | .roomWaitRunOut => Sys2Proof.Machine.execRoomWaitRunOut s
  | .stop => Sys2Proof.Machine.execStop s
  | .start => Sys2Proof.Machine.execStart s
  | .eject => Sys2Proof.Machine.execEject s
  | .selectorChange position => Sys2Proof.Machine.execSelectorChange position s
  | .channelTick ch => Sys2Proof.Machine.execChannelTick ch s
  | .linkTick => Sys2Proof.Machine.execLinkTick s
  | .linkLoss => Sys2Proof.Machine.execLinkLoss s
  | .replyTimerExpiry => Sys2Proof.Machine.execReplyTimerExpiry s
  | .backoffEnd => Sys2Proof.Machine.execBackoffEnd s
  | .pulse => Sys2Proof.Machine.execPulse s
  | .accept number => Sys2Proof.Machine.execAccept number s
  | .reject number reason => Sys2Proof.Machine.execReject number reason s
  | .busy number => Sys2Proof.Machine.execBusy number s
  | .badFrame bytes => Sys2Proof.Machine.execBadFrame bytes s
  | .row => Sys2Proof.Machine.execRow s
  | .sheetEnd => Sys2Proof.Machine.execSheetEnd s
  | .ownCycleStart => Sys2Proof.Machine.execOwnCycleStart s
  | .fetchPlaceGrant => Sys2Proof.Machine.execFetchPlaceGrant s
  | .fetchAnswer ans => Sys2Proof.Machine.execFetchAnswer ans s
  | .tallyWrite ans => Sys2Proof.Machine.execTallyWrite ans s
  | .heldHostCyclePass ans => Sys2Proof.Machine.execHeldHostCyclePass ans s
  | .pending w ans => Sys2Proof.Machine.execPending w ans s
  | .badKind w ans => Sys2Proof.Machine.execBadKind w ans s
  | .channel w ans => Sys2Proof.Machine.execChannel w ans s
  | .layout w ans => Sys2Proof.Machine.execLayout w ans s
  | .xlate w ans => Sys2Proof.Machine.execXlate w ans s
  | .glyph w ans => Sys2Proof.Machine.execGlyph w ans s
  | .link w ans => Sys2Proof.Machine.execLink w ans s
  | .disable w ans => Sys2Proof.Machine.execDisable w ans s
  | .query w ans => Sys2Proof.Machine.execQuery w ans s
  | .switchRelease sw => Sys2Proof.Machine.execSwitchRelease sw s

end Sys2Proof.Machine
end

