-- ==== Sys2Proof/Safety.lean ====
section
/-! DEFINITION. What the spec says always holds of the part: the invariants that claims are stated in.
Each is a predicate on one state; the statements in Certificates say that every step keeps them. -/

namespace Sys2Proof.Machine

/-! ### The cell pool (R60 to R63) -/

/-- The cells held in open forms, in pending sheets and in queued sheets. -/
def heldCells (s : State) : Nat :=
  (allChannels.map fun ch => (s.ch ch).openCells + formCells (s.ch ch).pendSheet).sum +
    (s.queue.map Sheet.cellCount).sum

/-- Free cells and held cells total 24,576 (R61). -/
def CellsTotal (s : State) : Prop := s.freeCells + heldCells s = Config.poolCells

/-- A cell: column 0 to 159, 1 to 3 strikes (R62). -/
def CellOk (c : PrintCell) : Prop :=
  c.col < Config.columns ∧ 1 ≤ c.strikes.length ∧ c.strikes.length ≤ Config.maxStrikes

/-- A form line: at least one cell, cells in strictly ascending column (R62, R63). -/
def LineOk (l : FormLine) : Prop :=
  l.cells ≠ [] ∧ l.cells.Pairwise (fun a b => a.col < b.col) ∧ ∀ c ∈ l.cells, CellOk c

/-- A form: lines in strictly ascending index, each between the first line and the tape length at
opening less 1 (R63). -/
def FormOk (f : Form) : Prop :=
  f.lines.Pairwise (fun a b => a.index < b.index) ∧
    ∀ l ∈ f.lines, LineOk l ∧ f.firstLine ≤ l.index ∧ l.index < f.tapeLength

/-- A form that is open or pending holds no coordinates yet (R62). -/
def FormUnplaced (f : Form) : Prop := ∀ l ∈ f.lines, ∀ c ∈ l.cells, c.xy = none

/-- A tape's length lies within 12 to 192 (R41). -/
def TapeOk (t : Tape) : Prop := 12 ≤ t.length ∧ t.length ≤ 192

/-- A loaded tape with its position and its open form (R41, R63). -/
def PaperOk (p : Paper) : Prop :=
  TapeOk p.tape ∧ p.pos < p.tape.length ∧ FormOk p.form ∧ FormUnplaced p.form ∧
    p.form.tapeLength = p.tape.length ∧ p.form.firstLine ≤ p.pos

/-- A strike list: columns 0 to 159 in strictly ascending order (R37). -/
def StrikesOk (strikes : List Strike) : Prop :=
  strikes.Pairwise (fun a b => a.col < b.col) ∧ ∀ k ∈ strikes, k.col < Config.columns

/-- The stage of an operation fits its kind, and what the stage needs is there (R12). -/
def OpOk (c : Channel) (op : Op) : Prop :=
  match op.stage with
  | .takingLine _ => op.kind.isPrint = true ∧ c.paper.isSome = true ∧ op.linePlaced = false
  | .takingTape r => op.kind = .loadTape ∧ ∀ n ∈ r.length, tapeLengthOk n = true
  | .placing strikes =>
    op.kind.isPrint = true ∧ c.paper.isSome = true ∧ op.linePlaced = false ∧ StrikesOk strikes
  | .moving held =>
    (op.kind = .loadTape ∧ ∃ t ∈ held, TapeOk t) ∨
      (op.kind ≠ .loadTape ∧ held = none ∧ c.paper.isSome = true ∧
        op.linePlaced = op.kind.isPrint)

/-- A channel: OFFLINE holds no tape and no sheet, a pending sheet exists only in 2-up, and its forms
and its operation are as the rules say (R2, R41, R72). -/
def ChannelOk (c : Channel) : Prop :=
  (c.state = .offline → c.paper = none ∧ c.pendSheet = none ∧ c.runOutDue = false) ∧
  (c.pendSheet.isSome = true → c.layout.geo.twoUp = true ∧ c.paper.isSome = true) ∧
  (∀ p ∈ c.paper, PaperOk p) ∧
  (∀ f ∈ c.pendSheet, FormOk f ∧ FormUnplaced f) ∧
  (∀ op ∈ c.state.op?, OpOk c op)

/-- Every channel is as the rules say. -/
def ChannelsOk (s : State) : Prop := ∀ ch ∈ allChannels, ChannelOk (s.ch ch)

/-! ### Wait lists (R68, R100) -/

/-- The channels on the wait list for cells are those whose line is in PLACING, each once (R68). -/
def CellWaitOk (s : State) : Prop :=
  s.cellWait.Nodup ∧ ∀ ch ∈ allChannels, (ch ∈ s.cellWait ↔ (s.waitingStrikes ch).isSome = true)

/-- The channel's operation is in MOVING. -/
def Channel.inMoving (c : Channel) : Prop := ∃ op ∈ c.state.op?, ∃ held, op.stage = .moving held

/-- The claimants on the room-wait list are the moves that wait in MOVING and the run-out actions held
due, each once (R100). -/
def RoomWaitOk (s : State) : Prop :=
  s.roomWait.Nodup ∧
  (∀ ch ∈ allChannels, (.move ch ∈ s.roomWait ↔ (s.ch ch).inMoving)) ∧
  (∀ ch ∈ allChannels, (.runOut ch ∈ s.roomWait ↔ (s.ch ch).runOutDue = true))

/-! ### The sheet queue (R90, R97, R98) -/

/-- A queued sheet's cells lie on the sheet (R86, R90). -/
def SheetOk (sh : Sheet) : Prop :=
  sh.attempts ≤ Config.attemptLimit ∧
  (∀ l ∈ sh.rows, ∀ c ∈ l.cells, ∃ x y, c.xy = some (x, y) ∧ x < sh.geo.width ∧ y < sh.geo.height)

/-- The queue holds at most 8 sheets, each placed on its sheet (R97, R98). -/
def QueueOk (s : State) : Prop :=
  s.queue.length ≤ Config.queuePlaces ∧ ∀ sh ∈ s.queue, SheetOk sh

/-- The link state fits the queue: IDLE-UP only on an empty queue, a sheet worked on only with one there,
WAIT-OPERATOR exactly with 16 attempts used (R98, R102, R117). -/
def LinkFitsQueue (s : State) : Prop :=
  (s.link.state = .idleUp → s.queue = []) ∧
  (s.link.state ∈ [.sending, .awaiting, .backoff] → ∃ sh ∈ s.queue.head?, sh.attempts < 16) ∧
  (s.link.state = .waitOperator → ∃ sh ∈ s.queue.head?, sh.attempts = 16)

/-! ### The memory path (R122, R124, R129) -/

/-- The window table: at most 16 entries, one of them SETUP, no two sharing an address, every one within
0 to 1,048,575 (R122). -/
def WindowsOk (s : State) : Prop :=
  s.windows.length ≤ 16 ∧ s.windows.countP (fun w => decide (w.role = .setup)) = 1 ∧ s.windows.Pairwise (fun v w => v.overlaps w = false) ∧
    ∀ w ∈ s.windows, w.base.toNat + w.role.length ≤ 1048576

/-- A channel has its three windows when it is not OFFLINE and none when it is (R1, R2, R23). -/
def BindingOk (s : State) : Prop :=
  ∀ ch ∈ allChannels,
    (s.channelWindows ch).map Window.role =
      if (s.ch ch).state = .offline then [] else [.control ch, .pages ch, .tape ch]

/-- The shadow is in its canonical form, and holds bytes of windows only (R124). -/
def ShadowOk (s : State) : Prop :=
  s.shadow.wf ∧ ∀ x ∈ s.shadow, ∃ w ∈ s.windows,
    2 * w.base.toNat ≤ x.1 ∧ x.1 < 2 * (w.base.toNat + w.role.length)

/-- The own-cycle queue: at most 12 FETCH entries and at most one TALLY-WRITE per channel (R129). -/
def OwnQueueOk (s : State) : Prop :=
  s.ownQueue.countP OwnEntry.isFetch ≤ Config.fetchPlaces ∧
    ∀ ch ∈ allChannels, s.ownQueue.countP (OwnEntry.isTallyOf ch) ≤ 1

/-- The device tables keep their sizes: 256 translation entries, 64 glyph codes, 8 answer words (R137). -/
def TablesOk (s : State) : Prop :=
  s.setup.translation.length = 256 ∧ s.setup.glyphCodes.length = 64 ∧ s.setup.answers.length = 8

/-! ### The whole -/

/-- What holds of the part in every run: R61 with the shapes of forms, lists, queue and link that it
rests on. -/
def PrintInv (s : State) : Prop :=
  CellsTotal s ∧ ChannelsOk s ∧ CellWaitOk s ∧ RoomWaitOk s ∧ QueueOk s ∧ LinkFitsQueue s

/-- What holds of the memory path in every run. -/
def PathInv (s : State) : Prop := WindowsOk s ∧ BindingOk s ∧ ShadowOk s ∧ OwnQueueOk s

end Sys2Proof.Machine
end

