-- ==== Sys2Proof/Certificates/Slice0/Obligations.lean ====
section
/-! DEFINITION. The statements for the provers: what the numbered rules of spec/ say the commands do. The
terms they share stand first, under Sys2Proof.Claims; each statement is one `Obligations.<Name>`. -/

namespace Sys2Proof.Claims

open Sys2Proof.Machine

/-! ### Host cycles -/

/-- A FETCH of the address waits in the own-cycle queue (R134). -/
def FetchWaits (a : Addr) (s : State) : Prop := ∃ req f, OwnEntry.fetch req f ∈ s.ownQueue ∧ f.addr = a

/-- The memory side is free and nothing holds the cycle: no own cycle is in progress, the starvation
guard does not hold (R133), and a write has no waiting FETCH of its address (R134). -/
structure Unheld (c : BusCycle) (s : State) : Prop where
  free : s.ownCycle = none
  unguarded : s.ownQueue = [] ∨ s.passedOver < 32
  unmatched : cycleWrites c = true → ¬ FetchWaits (cycleAddr c) s

/-- The host presents the cycle and it passes at once (R132). -/
structure Passes (c : BusCycle) (s : State) : Prop extends Unheld c s where
  alone : s.presented = none

/-- The state once a host cycle has been given the memory side and answered: the passed-over count counts
it while an own cycle waits (R133), the cycle stands on the memory side as it came and the host has its
reply (R120). -/
def given (c : BusCycle) (reply : HostReply) (s : State) : State :=
  { s with
    passedOver := if s.ownQueue.isEmpty then s.passedOver else s.passedOver + 1
    memDrive := some c
    hostReply := some reply }

/-- The state once a host write to a window's word has passed, before its owner acts on the report: the
shadow has taken the named bytes (R121, R125). -/
def written (w : BusWrite) (ans : WriteAnswer) (s : State) : State :=
  { given (.write w) ⟨none, some ans⟩ s with shadow := shadowHostWrite w ans s.shadow }

/-- The bytes a write names replace those of a word (R3, R20). -/
def merged (w : BusWrite) (old : Word) : Word :=
  (if w.en.hi then w.data.hi.val else hiByte old) ++ (if w.en.lo then w.data.lo.val else loByte old)

/-- The merged command value after a write to a channel's command word (R3). -/
def newCommand (w : BusWrite) (c : Channel) : Word := merged w c.merged

/-- The channel with the merged values of a command-word write (R3). -/
def withCommand (w : BusWrite) (c : Channel) : Channel :=
  { c with merged := newCommand w c, prevMerged := c.merged }

/-- The write makes a GO: in STROBE it leaves GO = 1 (R4), in EDGE the merged value before had GO = 0 as
well (R5), in SAMPLED it never does (R6). -/
def MakesGo (w : BusWrite) (c : Channel) : Prop :=
  (c.goMode = .strobe ∧ (newCommand w c).getLsbD 15 = true) ∨
  (c.goMode = .edge ∧ (newCommand w c).getLsbD 15 = true ∧ c.merged.getLsbD 15 = false)

/-- A write to the command word of a channel that passes at once. -/
structure CommandWrite (w : BusWrite) (ch : ChannelId) (s : State) : Prop where
  passes : Passes (.write w) s
  word : s.lookup w.addr = some (.control ch, 0)

/-- A word of the shadow holds a value, both bytes valid (R124). -/
def Holds (m : Memory) (a : Addr) (v : Word) : Prop :=
  m.read (hiKey a) = some (hiByte v) ∧ m.read (loKey a) = some (loByte v)

/-- The count of a saturating counter raised by n (00_scope 0.5). -/
def saturated (count n : Nat) : Nat := min (count + n) 65535

/-- The own-cycle queue once the channel's tally is to be written back: the waiting TALLY-WRITE takes the
address and the value in its place, or a new one joins the tail (R19, R131). -/
def withTally (ch : ChannelId) (a : Addr) (v : Word) (q : List OwnEntry) : List OwnEntry :=
  if q.any (OwnEntry.isTallyOf ch) then q.map fun e => if e.isTallyOf ch then .tally ch a v else e
  else q ++ [.tally ch a v]

/-! ### GOs and movement -/

/-- A write that makes a GO in an IDLE channel with no panel action pending. -/
structure QuietGo (w : BusWrite) (ch : ChannelId) (s : State) : Prop extends CommandWrite w ch s where
  go : MakesGo w (s.ch ch)
  idle : (s.ch ch).state = .idle
  noStop : (s.ch ch).pendStop = false
  noEject : (s.ch ch).pendEject = false

/-- The state in which an accepted GO's operation runs: the write is taken, and a run-out action held due
is dropped with its claim (R3, R78, R100). -/
def begun (w : BusWrite) (ans : WriteAnswer) (ch : ChannelId) (s : State) : State :=
  { (written w ans s).modCh ch (fun c => { withCommand w c with runOutDue := false }) with
    roomWait := s.roomWait.filter fun x => decide (x ≠ .runOut ch) }

/-- The operation record of a GO that a command value makes, at a stage before any line is placed
(R10, R11). -/
def opOf (v : Word) (kind : OpKind) (count : Nat) (stage : Stage) : Op :=
  { kind := kind, vp := v.getLsbD 14, count := count, ie := v.getLsbD 13, stage := stage
    linePlaced := false }

/-- A normal completion on a channel with no panel action pending: IDLE, DONE, the request when IE is 1,
the stall counter 0, the run-out counter reloaded (R14). -/
def finished (ie : Bool) (c : Channel) : Channel :=
  { c with state := .idle, done := true, request := c.request || ie, stall := 0
           runOut := c.layout.runOut }

/-- One of the n lines from a first one is punched for a tape channel (R42). -/
def punchedIn (t : Tape) (k first n : Nat) : Bool :=
  (List.range n).any fun j => (t.masks.getD (first + j) 0).getLsbD (k - 1)

/-- The channel after a movement of m steps that stays on its form: the marks of the lines it reaches are
added (R48). -/
def movedBy (p : Paper) (m : Nat) (c : Channel) : Channel :=
  { c with paper := some { p with pos := p.pos + m }
           overflow := c.overflow || punchedIn p.tape 12 (p.pos + 1) m
           ch9 := c.ch9 || punchedIn p.tape 9 (p.pos + 1) m }

/-- The channel after a movement of m steps onto its next form: a new form is open at line 0, and the
marks are those of the lines reached on it (R48, R53). -/
def movedOnto (p : Paper) (m : Nat) (c : Channel) : Channel :=
  { c with paper := some ⟨p.tape, p.pos + m - p.tape.masks.length, ⟨p.tape.masks.length, 0, []⟩⟩
           overflow := punchedIn p.tape 12 0 (p.pos + m - p.tape.masks.length + 1)
           ch9 := punchedIn p.tape 9 0 (p.pos + m - p.tape.masks.length + 1) }

/-- A movement of m steps, at most one of which passes the form's end: there the form is closed and routed
(R48, R53). `Obligations.CloseRoutes` says what `routeClose` does. -/
def carried (ch : ChannelId) (p : Paper) (m : Nat) (s : State) : State :=
  if p.pos + m < p.tape.masks.length then s.modCh ch (movedBy p m)
  else routeClose ch p.form (s.modCh ch (movedOnto p m))

/-- A movement stays on its form, or its close has room (a 2-up channel with no pending sheet, or a free
queue place) and no line waits for the cells that the sheet may give back (R54, R92). -/
def RoomFor (ch : ChannelId) (p : Paper) (m : Nat) (s : State) : Prop :=
  p.pos + m < p.tape.masks.length ∨
    (s.cellWait = [] ∧
      (((s.ch ch).layout.geo.twoUp = true ∧ (s.ch ch).pendSheet = none) ∨ s.queue.length < 8))

/-- m is the number of steps of a skip to tape channel k: the first of the lines after the position,
modulo L and L of them at most, that is punched (R50). -/
def SkipLands (p : Paper) (k m : Nat) : Prop :=
  1 ≤ m ∧ m ≤ p.tape.masks.length ∧
  (p.tape.masks.getD ((p.pos + m) % p.tape.masks.length) 0).getLsbD (k - 1) = true ∧
  ∀ j, 1 ≤ j → j < m →
    (p.tape.masks.getD ((p.pos + j) % p.tape.masks.length) 0).getLsbD (k - 1) = false

/-- No line of the tape is punched for tape channel k (R51). -/
def NeverPunched (p : Paper) (k : Nat) : Prop :=
  ∀ l, l < p.tape.masks.length → (p.tape.masks.getD l 0).getLsbD (k - 1) = false

/-! ### Lines -/

/-- The line of a print GO is whole in the shadow: the line-length word holds v, and every position 1 to
min v 160 of the page VP holds its code (R24, R25, R162). -/
structure LineHeld (m : Memory) (s : State) (ch : ChannelId) (vp : Bool) (v : Word)
    (codes : Nat → Byte) : Prop where
  length : Holds m (s.wordAddr (.control ch) 2) v
  page : ∀ p, 1 ≤ p → p ≤ min v.toNat 160 →
    m.read (2 * (s.wordAddr (.pages ch) ((if vp then 80 else 0) + (p - 1) / 2)).toNat + (p - 1) % 2) =
      some (codes p)

/-- Position i + 1's entry of the translation table (R32). -/
def entryAt (table : List TransEntry) (codes : Nat → Byte) (i : Nat) : TransEntry :=
  table.getD (codes (i + 1)).toNat .unprintable

/-- The unprintable positions of a line of n positions (R32). -/
def badCount (table : List TransEntry) (codes : Nat → Byte) (n : Nat) : Nat :=
  (List.range n).countP fun i => decide (entryAt table codes i = .unprintable)

/-- The strikes of a line before the edge check: each glyph, and under SUBSTITUTE each unprintable
position, at column p - 1 + s (R33, R34, R36). -/
def rawStrikes (table : List TransEntry) (codes : Nat → Byte) (n : Nat) (c : Channel) :
    List (Int × Glyph) :=
  (List.range n).filterMap fun i =>
    match entryAt table codes i with
    | .glyph g => some ((i : Int) + c.shift, g)
    | .blank => none
    | .unprintable => if c.policy = .substitute then some ((i : Int) + c.shift, c.substitute) else none

/-- The strikes that land on columns 0 to 159 (R36, R37). -/
def landing (ks : List (Int × Glyph)) : List Strike :=
  (ks.filter fun k => decide (0 ≤ k.1 ∧ k.1 ≤ 159)).map fun k => ⟨k.1.toNat, k.2⟩

/-- The columns of the strikes that miss the form (R36). -/
def missing (ks : List (Int × Glyph)) : List Int :=
  (ks.filter fun k => !decide (0 ≤ k.1 ∧ k.1 ≤ 159)).map Prod.fst

/-- The line taker's counters after a line has been translated and shifted (R32, R36, R39). -/
def lineCounted (table : List TransEntry) (codes : Nat → Byte) (n : Nat) (c : Channel) : Channel :=
  let lost := missing (rawStrikes table codes n c)
  { c with unprintable := saturated c.unprintable (badCount table codes n)
           shiftLost := saturated c.shiftLost lost.length
           lastDropped := match lost.getLast? with
             | some col => some col
             | none => c.lastDropped }

/-- The carriage once a strike list is merged at its position; `Obligations.MergeCells` says what
`Form.merge` does. -/
def struck (p : Paper) (strikes : List Strike) : Paper :=
  { p with form := p.form.merge p.pos strikes }

/-- The new cells a strike list needs on the form line at a carriage's position (R65). -/
def needed (p : Paper) (strikes : List Strike) : Nat :=
  strikes.countP fun k => !(p.form.cellsAt p.pos).any fun c => c.col = k.col

/-- The strikes of a list that find their cell full (R67). -/
def overfull (p : Paper) (strikes : List Strike) : Nat :=
  strikes.countP fun k =>
    (p.form.cellsAt p.pos).any fun c => c.col = k.col && decide (3 ≤ c.strikes.length)

/-- The state once a print's line has been placed whole: the line's counters, its strikes in the open
form, its cells taken from the pool (R37, R65 to R67). -/
def linePlaced (w : BusWrite) (ans : WriteAnswer) (ch : ChannelId) (codes : Nat → Byte) (n : Nat)
    (p : Paper) (s : State) : State :=
  let strikes := landing (rawStrikes s.setup.translation codes n (s.ch ch))
  { (begun w ans ch s).modCh ch (fun c =>
      { lineCounted s.setup.translation codes n c with
        paper := some (struck p strikes)
        droppedStrikes := saturated c.droppedStrikes (overfull p strikes) }) with
    freeCells := s.freeCells - needed p strikes }

/-- A print GO whose line is whole in the shadow at the GO and is not refused by the policy CHECK
(R31, R35). -/
structure LineGo (w : BusWrite) (ans : WriteAnswer) (ch : ChannelId) (v : Word) (codes : Nat → Byte)
    (p : Paper) (s : State) : Prop extends QuietGo w ch s where
  carriage : (s.ch ch).paper = some p
  held : LineHeld (shadowHostWrite w ans s.shadow) s ch ((newCommand w (s.ch ch)).getLsbD 14) v codes
  printable : (s.ch ch).policy ≠ .check ∨ badCount s.setup.translation codes (min v.toNat 160) = 0

/-- Such a GO whose line finds its cells: it needs none, or nobody waits and the pool has them all
(R65, R68). -/
structure PrintGo (w : BusWrite) (ans : WriteAnswer) (ch : ChannelId) (v : Word) (codes : Nat → Byte)
    (p : Paper) (s : State) : Prop extends LineGo w ans ch v codes p s where
  cells : let need := needed p (landing (rawStrikes s.setup.translation codes (min v.toNat 160) (s.ch ch)))
    need = 0 ∨ (s.cellWait = [] ∧ need ≤ s.freeCells)

/-! ### Sheets -/

/-- d is n by 4,096 rounded to the nearest whole number, a half going up (R88). -/
def Nearest (n d : Nat) : Prop := 2 * 4096 * d ≤ 2 * n + 4096 ∧ 2 * n + 4096 < 2 * 4096 * (d + 1)

/-- The cell of a form line and column, if the form has one. -/
def cellOf (f : Form) (line col : Nat) : Option PrintCell :=
  (f.cellsAt line).find? fun c => decide (c.col = col)

/-- The sheet record of a close or a release (R86, R91, R98, R99). -/
def sheetOf (ch : ChannelId) (f0 : Form) (f1 : Option Form) (s : State) : Sheet :=
  let g := (s.ch ch).layout.geo
  { number := s.sheetCounter + 1, channel := ch, geo := g, slot0 := placeForm g false f0
    slot1 := f1.map (placeForm g true)
    clipCount := min (clippedCells g false f0 + (f1.map (clippedCells g true)).getD 0) 65535
    attempts := 0 }

/-- A sheet has entered the queue: it is numbered, placed and at the tail, its clipped cells are counted
and free again, and a link idle on an empty queue has begun to send it (R85, R91, R92, R99, R106).
`Obligations.Placement` says what `placeForm` and `clippedCells` are. -/
def entered (ch : ChannelId) (f0 : Form) (f1 : Option Form) (s : State) : State :=
  let g := (s.ch ch).layout.geo
  let clip := clippedCells g false f0 + (f1.map (clippedCells g true)).getD 0
  let begins : Prop := s.link.state = .idleUp ∧ s.queue = []
  { s.modCh ch (fun c => { c with clipped := saturated c.clipped clip }) with
    queue := s.queue ++ [sheetOf ch f0 f1 s]
    sheetCounter := s.sheetCounter + 1
    freeCells := s.freeCells + clip
    link := if begins then { s.link with state := .sending, rowsSent := 0 } else s.link
    linkSend := if begins then sheetOpenFrame (sheetOf ch f0 f1 s) else s.linkSend }

/-- The carriage after a break at its position: a CONTINUED form is open there (R74). -/
def broken (p : Paper) : Paper := { p with form := ⟨p.tape.masks.length, p.pos, []⟩ }

/-- The channel's run-out action has something to enter and its counter stands at 1, in IDLE or STOPPED
with no action due (R77). -/
structure RunsOut (ch : ChannelId) (s : State) : Prop where
  quiet : (s.ch ch).state = .idle ∨ (s.ch ch).state = .stopped
  last : (s.ch ch).runOut = 1
  notDue : (s.ch ch).runOutDue = false
  unsampled : (s.ch ch).goMode ≠ .sampled

/-! ### Setup records -/

/-- A host write to the apply word that passes at once, with no apply record in existence (R138). -/
structure ApplyWrite (w : BusWrite) (s : State) : Prop where
  passes : Passes (.write w) s
  word : s.lookup w.addr = some (.setup, 18)
  idle : s.setup.apply = none

/-- The setup words i in a list hold the values of a record in the shadow, as the write has left it
(R138). -/
def RecordHeld (w : BusWrite) (ans : WriteAnswer) (vals : Nat → Word) (words : List Nat) (s : State) :
    Prop :=
  ∀ i ∈ words, Holds (shadowHostWrite w ans s.shadow) (s.wordAddr .setup i) (vals i)

/-- The state once a record has been checked, before its effect: the result has its code and no apply
record is left; any answers present are ended by the write (R142, R151). -/
def applied (w : BusWrite) (ans : WriteAnswer) (code : ResultCode) (s : State) : State :=
  { written w ans s with
    setup := { s.setup with answersPresent := false, apply := none, result := code } }

/-- Two windows share an address (R123). -/
def Share (v w : Window) : Prop := ∃ a : Addr, v.covers a = true ∧ w.covers a = true

/-- The windows of a CHANNEL record that share addresses among themselves or with the setup window or
another channel's (R123). -/
def Clashes (x : ChannelRecord) (s : State) : Prop :=
  let control : Window := ⟨x.control, .control x.target⟩
  let pages : Window := ⟨x.pages, .pages x.target⟩
  let tape : Window := ⟨x.tape, .tape x.target⟩
  Share control pages ∨ Share control tape ∨ Share pages tape ∨
    ∃ v ∈ s.windows, v.role.channel ≠ some x.target ∧ (Share v control ∨ Share v pages ∨ Share v tape)

/-- The words of a CHANNEL record for its fields, each within its range (R143, R163). -/
structure ChannelWords (vals : Nat → Word) (x : ChannelRecord) : Prop where
  kind : vals 0 = 1
  target : (vals 1).toNat = x.target.toNat
  control : x.control.toNat = (vals 2).toNat * 65536 + (vals 3).toNat ∧ x.control.toNat ≤ 1048572
  pages : x.pages.toNat = (vals 4).toNat * 65536 + (vals 5).toNat ∧ x.pages.toNat ≤ 1048416
  tape : x.tape.toNat = (vals 6).toNat * 65536 + (vals 7).toNat ∧ x.tape.toNat ≤ 1048383
  goMode : (vals 8 = 0 ∧ x.goMode = .strobe) ∨ (vals 8 = 1 ∧ x.goMode = .edge) ∨
    (vals 8 = 2 ∧ x.goMode = .sampled)
  policy : (vals 9 = 0 ∧ x.policy = .blank) ∨ (vals 9 = 1 ∧ x.policy = .substitute) ∨
    (vals 9 = 2 ∧ x.policy = .check)
  substitute : (vals 10).toNat = x.substitute.val
  shift : (vals 11).toInt = x.shift ∧ -32 ≤ x.shift ∧ x.shift ≤ 32

/-- The channel once a CHANNEL record has bound it: new settings, no command value; an OFFLINE channel is
IDLE with no tape and everything clear (R3, R23, R38, R144). -/
def boundBy (x : ChannelRecord) (c : Channel) : Channel :=
  let b : Channel :=
    { c with goMode := x.goMode, merged := 0, prevMerged := 0, prevSample := 0
             policy := x.policy, substitute := x.substitute, shift := x.shift }
  if c.state = .offline then
    { b with state := .idle, paper := none, check := false, formStop := false, reject := false
             done := false, overflow := false, ch9 := false, stall := 0, pendStop := false
             pendEject := false, request := false }
  else b

/-- A byte address lies in a window. -/
def InWindow (v : Window) (b : Nat) : Prop :=
  2 * v.base.toNat ≤ b ∧ b < 2 * (v.base.toNat + v.role.length)

/-- The words of a LAYOUT record for its fields, each within its range (R82, R145). -/
structure LayoutWords (vals : Nat → Word) (ch : ChannelId) (l : Layout) : Prop where
  kind : vals 0 = 2
  target : (vals 1).toNat = ch.toNat
  px : (vals 2).toNat = l.geo.px ∧ 1 ≤ l.geo.px ∧ l.geo.px ≤ 255
  py : (vals 3).toNat = l.geo.py ∧ 1 ≤ l.geo.py ∧ l.geo.py ≤ 255
  scale : (vals 4).toNat = l.geo.scale ∧ 1 ≤ l.geo.scale ∧ l.geo.scale ≤ 8192
  slots : (vals 5).toNat = if l.geo.twoUp then 2 else 1
  origins : (vals 6).toNat = l.geo.ox0 ∧ (vals 7).toNat = l.geo.oy0 ∧ (vals 8).toNat = l.geo.ox1 ∧
    (vals 9).toNat = l.geo.oy1
  width : (vals 10).toNat = l.geo.width ∧ 1 ≤ l.geo.width
  height : (vals 11).toNat = l.geo.height ∧ 1 ≤ l.geo.height
  runOut : (vals 12).toNat = l.runOut ∧ l.runOut ≤ 255

/-- The forms of a disabled channel disposed of: its open form, when it holds cells, and its pending sheet
enter the queue as one sheet, and it has no tape, position or open form (R41, R79). -/
def disposed (ch : ChannelId) (c : Channel) (s : State) : State :=
  let t := s.modCh ch fun c => { c with paper := none, pendSheet := none }
  match c.pendSheet, c.paper with
  | none, some p => if 0 < p.form.cellCount then entered ch p.form none t else t
  | none, none => t
  | some f0, some p =>
    if 0 < p.form.cellCount then entered ch f0 (some p.form) t else entered ch f0 none t
  | some f0, none => entered ch f0 none t

/-- The channel's layout replaced, its run-out counter reloaded, a due run-out action dropped with its claim
(R83). -/
def layoutSet (ch : ChannelId) (l : Layout) (s : State) : State :=
  { s.modCh ch (fun c => { c with layout := l, runOut := l.runOut, runOutDue := false }) with
    roomWait := s.roomWait.filter fun x => decide (x ≠ .runOut ch) }

/-! ### The print link -/

/-- A frame on the print link: four preamble bytes, the start byte, kind, length, payload, CRC over kind,
length and payload (R165, R166). -/
def wire (kind : Byte) (payload : List Byte) (crc : Word) : List Byte :=
  [0x55, 0x55, 0x55, 0x55, 0xC3, kind, hiByte (BitVec.ofNat 16 payload.length),
    loByte (BitVec.ofNat 16 payload.length)] ++ payload ++ [hiByte crc, loByte crc]

/-- The CRC of a frame with a kind and a payload (R166). -/
def frameCrc (kind : Byte) (payload : List Byte) : Word :=
  crc16 (kind :: hiByte (BitVec.ofNat 16 payload.length) :: loByte (BitVec.ofNat 16 payload.length) ::
    payload)

/-- The receiver hunts: no frame is half received (R103). -/
def Hunting (s : State) : Prop := ∃ b, s.link.receiver = .hunting b

/-- The link after a valid frame has been taken as life in a state other than DOWN and TRAINING (R104). -/
def alive (l : LinkCtl) : LinkCtl := { l with silence := 0, receiver := .hunting false }

/-- The head sheet's next attempt has failed: it waits for the operator after its sixteenth, and otherwise
backs off for 2 to the smaller of its attempts and 6 ticks (R113). -/
def failed (sh : Sheet) (rest : List Sheet) (l : LinkCtl) (s : State) : State :=
  { s with
    queue := { sh with attempts := sh.attempts + 1 } :: rest
    link := if sh.attempts + 1 = 16 then { l with state := .waitOperator, replyTimer := 0 }
      else { l with state := .backoff, replyTimer := 0
                    backoffTimer := 2 ^ min (sh.attempts + 1) 6 } }

/-- The link with an emission of a sheet begun, or idle where the queue is empty (R106, R107). -/
def begins (queue : List Sheet) (l : LinkCtl) (s : State) : State :=
  match queue with
  | [] => { s with link := { l with state := .idleUp } }
  | sh :: _ =>
    if sh.attempts = 16 then { s with link := { l with state := .waitOperator } }
    else { s with link := { l with state := .sending, rowsSent := 0 }
                  linkSend := wire 0x10 ([hiByte sh.number, loByte sh.number,
                      BitVec.ofNat 8 sh.channel.toNat, hiByte (BitVec.ofNat 16 sh.geo.width),
                      loByte (BitVec.ofNat 16 sh.geo.width), hiByte (BitVec.ofNat 16 sh.geo.height),
                      loByte (BitVec.ofNat 16 sh.geo.height), if sh.geo.twoUp then 2 else 1])
                    (frameCrc 0x10 ([hiByte sh.number, loByte sh.number,
                      BitVec.ofNat 8 sh.channel.toNat, hiByte (BitVec.ofNat 16 sh.geo.width),
                      loByte (BitVec.ofNat 16 sh.geo.width), hiByte (BitVec.ofNat 16 sh.geo.height),
                      loByte (BitVec.ofNat 16 sh.geo.height), if sh.geo.twoUp then 2 else 1])) }

/-- A freed queue place is offered to a room-wait list of one claimant at most: a waiting space is made, or a
run-out action held due is taken (R100; R101, step 2). -/
def Offered (s t : State) : Prop :=
  (s.roomWait = [] ∧ t = s) ∨
  (∃ ch op p, s.roomWait = [.move ch] ∧ s.queue.length < 8 ∧ (s.ch ch).state = .busy op ∧
    op.stage = .moving none ∧ op.kind = .spaceOnly ∧ op.count ≤ 3 ∧ (s.ch ch).paper = some p ∧ PaperOk p ∧
    p.tape.masks.length ≤ p.pos + op.count ∧ (s.ch ch).pendStop = false ∧ (s.ch ch).pendEject = false ∧
    t = (routeClose ch p.form ({ s with roomWait := [] }.modCh ch (movedOnto p op.count))).modCh ch
      (finished op.ie)) ∨
  (∃ ch p, s.roomWait = [.runOut ch] ∧ s.queue.length < 8 ∧ (s.ch ch).paper = some p ∧
    0 < p.form.cellCount ∧ (s.ch ch).pendSheet = none ∧
    t = entered ch p.form none ({ s with roomWait := [] }.modCh ch fun c =>
      { c with runOutDue := false, paper := some (broken p) }))

/-- n cells are freed with one line waiting at most, too few cells for it before: the line goes on waiting,
or is placed and moves, or is placed and its move joins the room-wait list (R69; R101, step 3). -/
def Retried (n : Nat) (s t : State) : Prop :=
  let f := { s with freeCells := s.freeCells + n }
  (s.cellWait = [] ∧ t = f) ∨
  ∃ ch op strikes p, s.cellWait = [ch] ∧ (s.ch ch).state = .busy op ∧ op.stage = .placing strikes ∧
    (s.ch ch).paper = some p ∧ s.freeCells < needed p strikes ∧
    let placed : State :=
      { s.modCh ch (fun c =>
          { c with paper := some (struck p strikes)
                   droppedStrikes := saturated c.droppedStrikes (overfull p strikes) }) with
        cellWait := [], freeCells := s.freeCells + n - needed p strikes }
    (f.freeCells < needed p strikes ∧ s.queue ≠ [] ∧ t = f) ∨
    (needed p strikes ≤ f.freeCells ∧ PaperOk p ∧ op.kind = .printSpace ∧ op.count ≤ 3 ∧
      (s.ch ch).pendStop = false ∧ (s.ch ch).pendEject = false ∧ RoomFor ch p op.count placed ∧
      t = { (carried ch (struck p strikes) op.count placed).modCh ch
              (fun c => { finished op.ie c with tally := c.tally + 1 })
          with ownQueue := withTally ch (s.wordAddr (.control ch) 3) ((s.ch ch).tally + 1) s.ownQueue }) ∨
    (needed p strikes ≤ f.freeCells ∧ PaperOk p ∧ op.kind = .printSpace ∧ op.count ≤ 3 ∧
      p.tape.masks.length ≤ p.pos + op.count ∧ 8 ≤ s.queue.length ∧ Claim.move ch ∉ s.roomWait ∧
      ((s.ch ch).layout.geo.twoUp = false ∨ (s.ch ch).pendSheet.isSome = true) ∧
      t = { placed.modCh ch (fun c =>
              { c with state := .busy { op with linePlaced := true, stage := .moving none } })
          with roomWait := s.roomWait ++ [.move ch] })

/-! ### Fetches and what they fill -/

/-- What memory's answer to a read gives each byte of the word: its value when it came with good parity
(R126). -/
def answered : ReadAnswer → Option Byte × Option Byte
  | .data m =>
    (if m.hi.par = oddParityBit m.hi.val then some m.hi.val else none,
      if m.lo.par = oddParityBit m.lo.val then some m.lo.val else none)
  | .noResponse => (none, none)

/-- The shadow once a FETCH of a window's word has been answered: its two bytes as answered, every other
kept (R126). -/
def FetchedShadow (a : Addr) (ans : ReadAnswer) (s : State) (m : Memory) : Prop :=
  ∀ b, m.read b =
    if b = 2 * a.toNat then (answered ans).1
    else if b = 2 * a.toNat + 1 then (answered ans).2
    else s.shadow.read b

/-- The state in which a FETCH's answer is delivered: the own cycle has ended and the shadow is updated
(R126). -/
def fetchEnded (s : State) (m : Memory) : State := { s with ownCycle := none, shadow := m }

/-- A FETCH for a channel's operation is in progress, of a window's word, for a place in its record. -/
structure Fetching (ch : ChannelId) (f : FetchWord) (dest : Dest) (op : Op) (s : State) : Prop where
  cycle : s.ownCycle = some (.fetch (.operation ch) f)
  dest : f.dest = dest
  window : (s.findWindow f.addr).isSome = true
  busy : (s.ch ch).state = .busy op

/-- No byte, none damaged. -/
def lackingWord : TakenWord := ⟨none, none, false, false⟩

/-- A record's word filled by an answer: each byte that it lacks and needs takes the answer, and is damaged
where that is bad; a byte it has keeps its value (R26, R29, R46, R139). -/
def filled (t : TakenWord) (needHi needLo : Bool) (ans : ReadAnswer) : TakenWord :=
  let takeHi := needHi && t.hi.isNone
  let takeLo := needLo && t.lo.isNone
  { hi := if takeHi then (answered ans).1 else t.hi
    lo := if takeLo then (answered ans).2 else t.lo
    hiDamaged := t.hiDamaged || (takeHi && (answered ans).1.isNone)
    loDamaged := t.loDamaged || (takeLo && (answered ans).2.isNone) }

/-- The bytes that such a fill newly damages (R29). -/
def newDamage (t : TakenWord) (needHi needLo : Bool) (ans : ReadAnswer) : Nat :=
  (needHi && t.hi.isNone && (answered ans).1.isNone).toNat +
    (needLo && t.lo.isNone && (answered ans).2.isNone).toNat

/-- Page word j of a line record filled by an answer, for a line of n positions (R29). -/
def filledPage (r : LineRec) (n j : Nat) (ans : ReadAnswer) : TakenWord :=
  filled (r.words.getD j lackingWord) (decide (2 * j + 1 ≤ n)) (decide (2 * j + 2 ≤ n)) ans

/-- The positions that page word j's answer newly damages (R29). -/
def pageDamage (r : LineRec) (n j : Nat) (ans : ReadAnswer) : Nat :=
  newDamage (r.words.getD j lackingWord) (decide (2 * j + 1 ≤ n)) (decide (2 * j + 2 ≤ n)) ans

/-- The page words that a line of n positions needs and its record lacks, in ascending address (R27). -/
def lackingPages (words : List TakenWord) (ch : ChannelId) (vp : Bool) (n : Nat) (s : State) :
    List FetchWord :=
  ((List.range 80).filter fun j =>
      (decide (2 * j + 1 ≤ n) && (words.getD j lackingWord).hi.isNone) ||
        (decide (2 * j + 2 ≤ n) && (words.getD j lackingWord).lo.isNone)).map fun j =>
    ⟨s.wordAddr (.pages ch) ((if vp then 80 else 0) + j), .page j⟩

/-- The mask words 1 to L that a tape record lacks, in ascending address (R45). -/
def lackingMasks (words : List TakenWord) (ch : ChannelId) (len : Nat) (s : State) : List FetchWord :=
  ((List.range len).filter fun i =>
      (words.getD (i + 1) lackingWord).hi.isNone || (words.getD (i + 1) lackingWord).lo.isNone).map
    fun i => ⟨s.wordAddr (.tape ch) (i + 1), .tape (i + 1)⟩

/-- How many words of a list a requester is granted places for at once, the place-wait list being empty
(R129, R130). -/
def grantedOf (ws : List FetchWord) (s : State) : Nat :=
  min ws.length (12 - s.ownQueue.countP OwnEntry.isFetch)

/-- A requester gives its listed words to the queue for the free places, and joins the empty place-wait
list with what remains (R28, R130). -/
def gives (req : Requester) (ws : List FetchWord) (s : State) : State :=
  { s with
    ownQueue := s.ownQueue ++ (ws.take (grantedOf ws s)).map (OwnEntry.fetch req)
    placeWait := if ws.length ≤ grantedOf ws s then [] else [req] }

/-- The entry of a taken position, i being the position less 1: an absent or damaged one is unprintable
(R32). -/
def takenEntry (table : List TransEntry) (words : List TakenWord) (i : Nat) : TransEntry :=
  let t := words.getD (i / 2) lackingWord
  let code := if i % 2 = 0 then (if t.hiDamaged then none else t.hi)
    else (if t.loDamaged then none else t.lo)
  match code with
  | some c => table.getD c.toNat .unprintable
  | none => .unprintable

/-- The strikes before the edge check of a line of n positions with given entries (R33, R34, R36). -/
def entryStrikes (entry : Nat → TransEntry) (n : Nat) (c : Channel) : List (Int × Glyph) :=
  (List.range n).filterMap fun i =>
    match entry i with
    | .glyph g => some ((i : Int) + c.shift, g)
    | .blank => none
    | .unprintable => if c.policy = .substitute then some ((i : Int) + c.shift, c.substitute) else none

/-- The unprintable positions of such a line (R32). -/
def entryBad (entry : Nat → TransEntry) (n : Nat) : Nat :=
  (List.range n).countP fun i => decide (entry i = .unprintable)

/-- The end of TAKING for a print-then-space whose line is not refused and whose cells are there: the line is
counted, shifted and placed, the carriage spaces, the operation completes and the tally is written back
(R31 to R37, R65 to R67, R49, R14, R19). -/
def lineEnded (ch : ChannelId) (op : Op) (p : Paper) (entry : Nat → TransEntry) (n : Nat) (s : State) :
    State :=
  let raw := entryStrikes entry n (s.ch ch)
  let strikes := landing raw
  let placed : State :=
    { s.modCh ch (fun c =>
        { c with
          unprintable := saturated c.unprintable (entryBad entry n)
          shiftLost := saturated c.shiftLost (missing raw).length
          lastDropped := match (missing raw).getLast? with
            | some col => some col
            | none => c.lastDropped
          paper := some (struck p strikes)
          droppedStrikes := saturated c.droppedStrikes (overfull p strikes) }) with
      freeCells := s.freeCells - needed p strikes }
  { (carried ch (struck p strikes) op.count placed).modCh ch
      (fun c => { finished op.ie c with tally := c.tally + 1 }) with
    ownQueue := withTally ch (s.wordAddr (.control ch) 3) ((s.ch ch).tally + 1) s.ownQueue }

/-- What such an end asks of the state: a carriage, room and cells, no panel action pending. -/
structure LineEnds (ch : ChannelId) (op : Op) (p : Paper) (entry : Nat → TransEntry) (n : Nat) (s : State) :
    Prop where
  kind : op.kind = .printSpace ∧ op.count ≤ 3
  carriage : (s.ch ch).paper = some p ∧ PaperOk p
  cells : needed p (landing (entryStrikes entry n (s.ch ch))) = 0 ∨
    (s.cellWait = [] ∧ needed p (landing (entryStrikes entry n (s.ch ch))) ≤ s.freeCells)
  room : RoomFor ch p op.count s
  noPanel : (s.ch ch).pendStop = false ∧ (s.ch ch).pendEject = false

/-- The end of TAKING for a line refused under CHECK: it is counted, and the channel halts with CHECK, any
pending panel action dropped (R35, R14). -/
def lineRefused (ch : ChannelId) (op : Op) (bad : Nat) (s : State) : State :=
  s.modCh ch fun c =>
    { finished op.ie c with
      state := .halted, check := true, pendStop := false, pendEject := false
      unprintable := saturated c.unprintable bad }

/-! ### Forced breaks, run-out and setup answers -/

/-- A form that a forced break takes alone: the waiting channel's own, or with that empty the form with the
most cells, the lowest channel winning a tie; of a 1-up channel with nothing to clip (R76). -/
def Victim (ch : ChannelId) (p : Paper) (v : ChannelId) (q : Paper) (s : State) : Prop :=
  (s.ch v).paper = some q ∧ 0 < q.form.cellCount ∧ (s.ch v).layout.geo.twoUp = false ∧
    (s.ch v).pendSheet = none ∧ clippedCells (s.ch v).layout.geo false q.form = 0 ∧
    (v = ch ∨
      (p.form.cellCount = 0 ∧
        ∀ u : ChannelId, u ≠ v → (s.ch u).openCells ≤ q.form.cellCount ∧
          (u.toNat < v.toNat → (s.ch u).openCells < q.form.cellCount)))

/-- The run-out counter counts on a tick of an IDLE or STOPPED channel (R77). -/
abbrev counting (c : Channel) : Prop :=
  0 < c.runOut ∧ c.runOutDue = false ∧ (0 < c.openCells ∨ c.pendSheet.isSome = true)

/-- A SAMPLED channel in IDLE or STOPPED after its tick's run-out step and sample, no action becoming due
(R6, R77, R153). -/
def ticked (c : Channel) : Channel :=
  { c with runOut := if counting c then c.runOut - 1 else c.runOut, prevSample := c.merged }

/-- The sample of a tick makes a GO: the merged value has GO = 1 and the previous sample had not (R6). -/
def GoRises (c : Channel) : Prop := c.merged.getLsbD 15 = true ∧ c.prevSample.getLsbD 15 = false

/-- The GO that a sample makes is a move without a print, and m is the number of its steps (R7, R49, R50). -/
def MoveSampled (p : Paper) (m : Nat) (c : Channel) : Prop :=
  c.merged.getLsbD 11 = false ∧ c.merged.getLsbD 12 = false ∧ c.merged.getLsbD 7 = true ∧
    ((c.merged.getLsbD 6 = false ∧ c.merged.toNat % 4 = m) ∨
      (c.merged.getLsbD 6 = true ∧ 1 ≤ c.merged.toNat % 16 ∧ c.merged.toNat % 16 ≤ 12 ∧
        SkipLands p (c.merged.toNat % 16) m))

/-- A FETCH for the setup unit's record is in progress, of word i of the setup window. -/
structure RecordFetching (i : Nat) (f : FetchWord) (r : ApplyRec) (s : State) : Prop where
  cycle : s.ownCycle = some (.fetch .setup f)
  dest : f.dest = .record i
  window : (s.findWindow f.addr).isSome = true
  record : s.setup.apply = some r

/-- The payload words of the kind a code names (08, 8.2). -/
def payloadOf (code : Nat) : List Nat :=
  if code = 1 then List.range' 2 10 else if code = 2 then List.range' 2 11
  else if code = 3 ∨ code = 4 then List.range' 2 16 else if code = 5 then [2] else []

/-- The words of a list that a setup record lacks, in ascending order (R138, R139). -/
def lackingRecord (words : List TakenWord) (is : List Nat) (s : State) : List FetchWord :=
  (is.filter fun i => (words.getD i lackingWord).hi.isNone || (words.getD i lackingWord).lo.isNone).map
    fun i => ⟨s.wordAddr .setup i, .record i⟩

/-- The state once the last answer of a record has been taken and the record has been checked: no apply
record is left and the result has its code (R139, R142). -/
def appliedLate (code : ResultCode) (s : State) : State :=
  { s with setup := { s.setup with apply := none, result := code } }

/-! ### Reset -/

/-- A channel's registers after a host bus reset (R3, R22). -/
def afterReset (c : Channel) : Channel :=
  { c with
    state := match c.state with
      | .offline => .offline
      | .stopped => .stopped
      | _ => .idle
    done := false, reject := false, check := false, formStop := false, request := false
    pendStop := false, pendEject := false, merged := 0, prevSample := 0, stall := 0 }

end Sys2Proof.Claims

open Sys2Proof Sys2Proof.Machine Sys2Proof.Claims

/-! ### The queue of commands -/

/-- The command at the front of the queue is executed on the state with the queue's rest, and on an empty
queue the part idles (log entry 16). -/
def Obligations.StepRunsFront : Prop :=
  (∀ (c : Instr) (rest : List Instr) (s : State),
    step { s with pending := c :: rest } = exec c { s with pending := rest }) ∧
  (∀ s : State, s.pending = [] → step s = .next s)

/-- Every command answers a next state in every state, and leaves the queue of waiting commands alone: no
command faults or is refused. That a command with nothing to act on changes nothing is the model's reading
(log entries 4, 5, 8, 25). -/
def Obligations.EveryCommandAnswersNext : Prop :=
  ∀ (c : Instr) (s : State), ∃ t, exec c s = .next t ∧ t.pending = s.pending

/-! ### Host cycles (07) -/

/-- A host cycle whose address lies in no window reaches memory as presented and returns memory's answer
unchanged; nothing of the part changes but the arbiter's passed-over count (R120, R133). A LOCKED
READ-MODIFY-WRITE returns both answers. -/
def Obligations.PassUnwindowed : Prop :=
  ∀ (c : BusCycle) (ans : CycleAnswer) (s : State),
    s.ownCycle = none → (s.ownQueue = [] ∨ s.passedOver < 32) → s.presented = none →
    (∀ v ∈ s.windows, v.covers (cycleAddr c) = false) →
    exec (.hostCyclePassThrough c ans) s =
      .next (given c (match c with
        | .read _ => ⟨some ans.read, none⟩
        | .write _ => ⟨none, some ans.write⟩
        | .locked _ => ⟨some ans.read, some ans.write⟩) s)

/-- A host write to a window's word: to a page, a tape word, a status word or a line-length word it only
updates the shadow, byte by byte as the answer and the parity say; to a setup word other than the apply
word it also ends any answers present (R121, R125, R151). -/
def Obligations.WindowWrite : Prop :=
  (∀ (w : BusWrite) (ans : WriteAnswer) (ch : ChannelId) (k : Nat) (s : State),
    Passes (.write w) s →
    (s.lookup w.addr = some (.pages ch, k) ∨ s.lookup w.addr = some (.tape ch, k) ∨
      s.lookup w.addr = some (.control ch, 1) ∨ s.lookup w.addr = some (.control ch, 2)) →
    exec (.hostWindowWrite w ans) s = .next (written w ans s)) ∧
  (∀ (w : BusWrite) (ans : WriteAnswer) (k : Nat) (s : State),
    Passes (.write w) s → s.lookup w.addr = some (.setup, k) → k ≠ 18 →
    exec (.hostWindowWrite w ans) s =
      .next { written w ans s with setup := { s.setup with answersPresent := false } }) ∧
  (∀ (w : BusWrite) (ans : WriteAnswer) (m : Memory) (b : Nat),
    (shadowHostWrite w ans m).read b =
      if w.en.hi = true ∧ b = 2 * w.addr.toNat then
        (if ans = .accepted ∧ w.data.hi.par = oddParityBit w.data.hi.val then some w.data.hi.val
         else none)
      else if w.en.lo = true ∧ b = 2 * w.addr.toNat + 1 then
        (if ans = .accepted ∧ w.data.lo.par = oddParityBit w.data.lo.val then some w.data.lo.val
         else none)
      else m.read b)

/-- A host write to the command word that makes no GO replaces the named bytes of the merged value, keeps
the value before it as the previous one, and changes nothing else of the channel (R3 to R6). -/
def Obligations.CommandWriteNoGo : Prop :=
  ∀ (w : BusWrite) (ans : WriteAnswer) (ch : ChannelId) (s : State),
    CommandWrite w ch s → ¬ MakesGo w (s.ch ch) →
    exec (.hostWindowWrite w ans) s = .next ((written w ans s).modCh ch (withCommand w))

/-- A host cycle waits, presented and unreported, while an own cycle is in progress (R132), while the
starvation guard holds it (R133), and, for a write to a window's word, while a FETCH of its address waits
(R134). While one cycle is presented the bus presents no other: the command has no effect (log entry 4). -/
def Obligations.HeldCycleWaits : Prop :=
  (∀ (c : BusCycle) (ans : CycleAnswer) (s : State),
    s.presented = none →
    (s.ownCycle ≠ none ∨ (s.ownQueue ≠ [] ∧ 32 ≤ s.passedOver) ∨
      (cycleWrites c = true ∧ (∃ v ∈ s.windows, v.covers (cycleAddr c) = true) ∧
        FetchWaits (cycleAddr c) s)) →
    exec (.hostCyclePassThrough c ans) s =
      .next { s with presented := some c, hostReply := none }) ∧
  (∀ (c d : BusCycle) (ans : CycleAnswer) (s : State),
    s.presented = some d → exec (.hostCyclePassThrough c ans) s = .next s)

/-- The presented cycle passes, and is reported, once nothing holds it, exactly as it would have passed if
it had been presented then; while something holds it, it goes on waiting (R121, R132 to R134). -/
def Obligations.HeldCyclePasses : Prop :=
  (∀ (c : BusCycle) (ans : CycleAnswer) (s : State),
    s.presented = some c → Unheld c s →
    ∃ t, exec (.heldHostCyclePass ans) s = .next t ∧ t.presented = none ∧
      exec (.hostCyclePassThrough c ans) { s with presented := none } = .next t) ∧
  (∀ (w : BusWrite) (ans : CycleAnswer) (ch : ChannelId) (k : Nat) (s : State),
    s.presented = some (.write w) → Unheld (.write w) s → s.lookup w.addr = some (.pages ch, k) →
    exec (.heldHostCyclePass ans) s = .next (written w ans.write { s with presented := none })) ∧
  (∀ (c : BusCycle) (ans : CycleAnswer) (s : State),
    s.presented = some c →
    (s.ownCycle ≠ none ∨ (s.ownQueue ≠ [] ∧ 32 ≤ s.passedOver) ∨
      (cycleWrites c = true ∧ (∃ v ∈ s.windows, v.covers (cycleAddr c) = true) ∧
        FetchWaits (cycleAddr c) s)) →
    exec (.heldHostCyclePass ans) s = .next s)

/-- The status byte: READY, BUSY, CHECK, FORM-STOP, OVERFLOW, CH9, REJECT and DONE from bit 15 of the word
down, each as the table of R16 says, and 0 at power-on. A read of the status word shows it as it stands, over
memory's low byte, and clears no mark (R16). -/
def Obligations.StatusByte : Prop :=
  (∀ c : Channel,
    (c.statusByte.getLsbD 7 = true ↔
      (c.state = .idle ∨ ((∃ op, c.state = .busy op) ∧ c.stall < 300))) ∧
    (c.statusByte.getLsbD 6 = true ↔ ∃ op, c.state = .busy op) ∧
    c.statusByte.getLsbD 5 = c.check ∧ c.statusByte.getLsbD 4 = c.formStop ∧
    c.statusByte.getLsbD 3 = c.overflow ∧ c.statusByte.getLsbD 2 = c.ch9 ∧
    c.statusByte.getLsbD 1 = c.reject ∧ c.statusByte.getLsbD 0 = c.done) ∧
  Channel.powerOn.statusByte = 0 ∧
  (∀ (a : Addr) (ch : ChannelId) (m : BusWord) (s : State),
    Passes (.read a) s → s.lookup a = some (.control ch, 1) →
    ∃ t b, exec (.statusRead a (.data m)) s = .next t ∧ t.hostReply = some ⟨some (.data ⟨b, m.lo⟩), none⟩ ∧
      b.val = (s.ch ch).statusByte ∧ (t.ch ch).overflow = (s.ch ch).overflow ∧
      (t.ch ch).ch9 = (s.ch ch).ch9)

/-- A host read of the status word returns the status byte over memory's low byte. Answered with a good
high byte it carries fresh parity, and DONE, REJECT and the done-request line are then cleared; answered
with a bad high byte it carries bad parity, and with no response nothing is forced; neither clears
anything (R17, R18, R127, R128). -/
def Obligations.StatusRead : Prop :=
  ∀ (a : Addr) (ch : ChannelId) (s : State),
    Passes (.read a) s → s.lookup a = some (.control ch, 1) →
    (∀ m : BusWord, m.hi.par = oddParityBit m.hi.val →
      exec (.statusRead a (.data m)) s =
        .next ((given (.read a)
            ⟨some (.data ⟨⟨(s.ch ch).statusByte, oddParityBit (s.ch ch).statusByte⟩, m.lo⟩), none⟩ s).modCh ch
          fun c => { c with done := false, reject := false, request := false })) ∧
    (∀ m : BusWord, m.hi.par ≠ oddParityBit m.hi.val →
      exec (.statusRead a (.data m)) s =
        .next (given (.read a)
          ⟨some (.data ⟨⟨(s.ch ch).statusByte, !oddParityBit (s.ch ch).statusByte⟩, m.lo⟩), none⟩ s)) ∧
    exec (.statusRead a .noResponse) s =
      .next (given (.read a) ⟨some .noResponse, none⟩ s)

/-- Other forced reads: the GO bit of a command word is 1 while an operation is in flight, the result word
reads the result code, answer words read the answers while they are present, and every other word of a
window reads as memory has it. A read of one of these words changes nothing else in the part (R1, R127,
R128, R151). -/
def Obligations.ForcedReads : Prop :=
  ∀ (a : Addr) (m : BusWord) (s : State), Passes (.read a) s →
    (∀ ch, s.lookup a = some (.control ch, 0) →
      exec (.hostCyclePassThrough (.read a) ⟨.data m, .accepted⟩) s =
        .next (given (.read a) ⟨some (.data ⟨forceByte m.hi
          (BitVec.ofBool (s.ch ch).state.isBusy ++ m.hi.val.extractLsb' 0 7), m.lo⟩), none⟩ s)) ∧
    (s.lookup a = some (.setup, 19) →
      exec (.hostCyclePassThrough (.read a) ⟨.data m, .accepted⟩) s =
        .next (given (.read a) ⟨some (.data ⟨forceByte m.hi (hiByte s.setup.result.code),
          forceByte m.lo (loByte s.setup.result.code)⟩), none⟩ s)) ∧
    (∀ k, k < 8 → s.setup.answersPresent = true → s.lookup a = some (.setup, k + 2) →
      exec (.hostCyclePassThrough (.read a) ⟨.data m, .accepted⟩) s =
        .next (given (.read a) ⟨some (.data ⟨forceByte m.hi (hiByte (s.setup.answers.getD k 0)),
          forceByte m.lo (loByte (s.setup.answers.getD k 0))⟩), none⟩ s)) ∧
    (∀ r k, s.lookup a = some (r, k) →
      (∀ ch, (r, k) ≠ (.control ch, 0) ∧ (r, k) ≠ (.control ch, 1)) → (r, k) ≠ (.setup, 19) →
      (r = .setup → s.setup.answersPresent = false ∨ k < 2 ∨ 9 < k) →
      exec (.hostCyclePassThrough (.read a) ⟨.data m, .accepted⟩) s =
        .next (given (.read a) ⟨some (.data m), none⟩ s))

/-- A LOCKED READ-MODIFY-WRITE of a status word: the read half returns the status byte and clears DONE,
REJECT and the request, then the write half lands in the shadow; of a page or tape word: the read half is
unforced and the write half lands. It counts as one host cycle (R133, R135). -/
def Obligations.LockedCycle : Prop :=
  (∀ (w : BusWrite) (m : BusWord) (wa : WriteAnswer) (ch : ChannelId) (s : State),
    Passes (.locked w) s → s.lookup w.addr = some (.control ch, 1) →
    m.hi.par = oddParityBit m.hi.val →
    exec (.lockedReadModifyWrite w ⟨.data m, wa⟩) s =
      .next { (given (.locked w)
          ⟨some (.data ⟨⟨(s.ch ch).statusByte, oddParityBit (s.ch ch).statusByte⟩, m.lo⟩), some wa⟩
          s).modCh ch (fun c => { c with done := false, reject := false, request := false }) with
        shadow := shadowHostWrite w wa s.shadow }) ∧
  (∀ (w : BusWrite) (ans : CycleAnswer) (ch : ChannelId) (k : Nat) (s : State),
    Passes (.locked w) s →
    (s.lookup w.addr = some (.pages ch, k) ∨ s.lookup w.addr = some (.tape ch, k)) →
    exec (.lockedReadModifyWrite w ans) s =
      .next { given (.locked w) ⟨some ans.read, some ans.write⟩ s with
        shadow := shadowHostWrite w ans.write s.shadow })

/-- A host write to the tally word presets the named bytes of the internal tally. A write of both bytes
removes the channel's waiting TALLY-WRITE, and the passed-over count starts again when that was the head;
a write of one byte gives it the new tally in its place (R20, R133). -/
def Obligations.TallyPreset : Prop :=
  ∀ (w : BusWrite) (ans : WriteAnswer) (ch : ChannelId) (s : State),
    Passes (.write w) s → s.lookup w.addr = some (.control ch, 3) →
    (w.en.hi = true → w.en.lo = true →
      exec (.tallyPreset w ans) s =
        .next { (written w ans s).modCh ch
            (fun c => { c with tally := w.data.hi.val ++ w.data.lo.val }) with
          ownQueue := s.ownQueue.filter fun e => !e.isTallyOf ch
          passedOver :=
            match s.ownQueue with
            | .tally c _ _ :: _ => if c = ch then 0 else s.passedOver + 1
            | .fetch _ _ :: _ => s.passedOver + 1
            | [] => s.passedOver }) ∧
    (w.en.hi ≠ w.en.lo →
      exec (.tallyPreset w ans) s =
        .next { (written w ans s).modCh ch
            (fun c => { c with tally := merged w c.tally }) with
          ownQueue := s.ownQueue.map fun e =>
            match e with
            | .tally c a v => if c = ch then .tally c a (merged w (s.ch ch).tally) else .tally c a v
            | .fetch r f => .fetch r f })

/-! ### GOs (01) -/

/-- A CLEAR taken in IDLE, STOPPED or HALTED: HALTED goes to IDLE; the four flags, the marks, the request,
the tally and the stall counter are cleared, and a tally that was not 0 asks for a TALLY-WRITE of 0; the
rest of the channel is kept (R8, R19). -/
def Obligations.ClearTaken : Prop :=
  ∀ (w : BusWrite) (ans : WriteAnswer) (ch : ChannelId) (s : State),
    CommandWrite w ch s → MakesGo w (s.ch ch) →
    (newCommand w (s.ch ch)).getLsbD 11 = true →
    ((s.ch ch).state = .idle ∨ (s.ch ch).state = .stopped ∨ (s.ch ch).state = .halted) →
    let t := (written w ans s).modCh ch fun c =>
      { withCommand w c with
        state := if c.state = .halted then .idle else c.state
        check := false, formStop := false, reject := false, done := false
        overflow := false, ch9 := false, tally := 0, request := false, stall := 0 }
    exec (.clear w ans) s =
      .next (if (s.ch ch).tally = 0 then t else
        { t with ownQueue := withTally ch (s.wordAddr (.control ch) 3) 0 s.ownQueue })

/-- A GO that the channel cannot accept sets REJECT and changes nothing else: a CLEAR in BUSY; a LOAD-TAPE
in BUSY, STOPPED or HALTED; a print or move outside IDLE, with no tape loaded, or a skip whose count is
not 1 to 12 (R8 to R10). -/
def Obligations.GoRefused : Prop :=
  ∀ (w : BusWrite) (ans : WriteAnswer) (ch : ChannelId) (s : State),
    CommandWrite w ch s → MakesGo w (s.ch ch) → (s.ch ch).state ≠ .offline →
    (((newCommand w (s.ch ch)).getLsbD 11 = true ∧ ∃ op, (s.ch ch).state = .busy op) ∨
     ((newCommand w (s.ch ch)).getLsbD 11 = false ∧ (newCommand w (s.ch ch)).getLsbD 12 = true ∧
       (s.ch ch).state ≠ .idle) ∨
     ((newCommand w (s.ch ch)).getLsbD 11 = false ∧ (newCommand w (s.ch ch)).getLsbD 12 = false ∧
       ((s.ch ch).state ≠ .idle ∨ (s.ch ch).paper = none ∨
        ((newCommand w (s.ch ch)).getLsbD 6 = true ∧
          ((newCommand w (s.ch ch)).toNat % 16 = 0 ∨ 12 < (newCommand w (s.ch ch)).toNat % 16))))) →
    ∀ i ∈ [Instr.clear w ans, .loadTape w ans, .printThenSpace w ans, .printThenSkip w ans,
        .spaceOnly w ans, .skipOnly w ans],
      exec i s =
        .next ((written w ans s).modCh ch fun c => { withCommand w c with reject := true })

/-- A LOAD-TAPE whose words are all valid in the shadow, with a length of 12 to 192, over no tape or over an
unused form at position 0: the tape of L masks is installed at position 0 with both marks clear and a new
form at line 0, and the operation completes (R42 to R47, R14). A length outside 12 to 192 completes it with
REJECT and keeps the old tape (R44). -/
def Obligations.LoadTape : Prop :=
  ∀ (w : BusWrite) (ans : WriteAnswer) (ch : ChannelId) (len : Word) (s : State),
    QuietGo w ch s → (newCommand w (s.ch ch)).getLsbD 11 = false →
    (newCommand w (s.ch ch)).getLsbD 12 = true →
    Holds (shadowHostWrite w ans s.shadow) (s.wordAddr (.tape ch) 0) len →
    (∀ words : List Word, 12 ≤ len.toNat → len.toNat ≤ 192 → words.length = len.toNat →
      (∀ i, i < len.toNat → Holds (shadowHostWrite w ans s.shadow) (s.wordAddr (.tape ch) (i + 1))
        (words.getD i 0)) →
      ((s.ch ch).paper = none ∨
        ∃ p, (s.ch ch).paper = some p ∧ p.pos = 0 ∧ (p.form.lines.map fun l => l.cells.length).sum = 0) →
      exec (.loadTape w ans) s =
        .next ((begun w ans ch s).modCh ch fun c =>
          finished ((newCommand w (s.ch ch)).getLsbD 13)
            { c with overflow := false, ch9 := false
                     paper := some ⟨⟨words.map fun v => v.extractLsb' 0 12⟩, 0,
                       ⟨len.toNat, 0, []⟩⟩ })) ∧
    (len.toNat < 12 ∨ 192 < len.toNat →
      exec (.loadTape w ans) s =
        .next ((begun w ans ch s).modCh ch fun c =>
          finished ((newCommand w (s.ch ch)).getLsbD 13) { c with reject := true }))

/-- A LOAD-TAPE over a used form closes it PARTIAL and routes it as the new tape is installed, once the
close has room (R47, R53, R54). -/
def Obligations.LoadTapeClosesForm : Prop :=
  ∀ (w : BusWrite) (ans : WriteAnswer) (ch : ChannelId) (words : List Word) (p : Paper) (s : State),
    QuietGo w ch s → (newCommand w (s.ch ch)).getLsbD 11 = false →
    (newCommand w (s.ch ch)).getLsbD 12 = true →
    12 ≤ words.length → words.length ≤ 192 →
    Holds (shadowHostWrite w ans s.shadow) (s.wordAddr (.tape ch) 0) (BitVec.ofNat 16 words.length) →
    (∀ i, i < words.length → Holds (shadowHostWrite w ans s.shadow) (s.wordAddr (.tape ch) (i + 1))
      (words.getD i 0)) →
    (s.ch ch).paper = some p →
    (0 < p.pos ∨ 0 < (p.form.lines.map fun l => l.cells.length).sum) →
    s.cellWait = [] →
    (((s.ch ch).layout.geo.twoUp = true ∧ (s.ch ch).pendSheet = none) ∨ s.queue.length < 8) →
    exec (.loadTape w ans) s =
      .next ((routeClose ch p.form ((begun w ans ch s).modCh ch fun c =>
          { c with overflow := false, ch9 := false
                   paper := some ⟨⟨words.map fun v => v.extractLsb' 0 12⟩, 0,
                     ⟨words.length, 0, []⟩⟩ })).modCh ch
        (finished ((newCommand w (s.ch ch)).getLsbD 13)))

/-- A space-only GO moves the carriage by its two-bit count, places no line, and completes (R49, R14). -/
def Obligations.SpaceOnly : Prop :=
  ∀ (w : BusWrite) (ans : WriteAnswer) (ch : ChannelId) (p : Paper) (s : State),
    QuietGo w ch s → (s.ch ch).paper = some p → PaperOk p →
    (newCommand w (s.ch ch)).getLsbD 11 = false → (newCommand w (s.ch ch)).getLsbD 12 = false →
    (newCommand w (s.ch ch)).getLsbD 7 = true → (newCommand w (s.ch ch)).getLsbD 6 = false →
    RoomFor ch p ((newCommand w (s.ch ch)).toNat % 4) s →
    exec (.spaceOnly w ans) s =
      .next ((carried ch p ((newCommand w (s.ch ch)).toNat % 4) (begun w ans ch s)).modCh ch
        (finished ((newCommand w (s.ch ch)).getLsbD 13)))

/-- A skip-only GO moves the carriage to the next line punched for its tape channel, which may be the line
it stands on a whole form later, and completes; with no line of the tape punched it is a runaway skip:
nothing moves, and the channel halts with FORM-STOP (R50 to R52, R14). -/
def Obligations.SkipOnly : Prop :=
  ∀ (w : BusWrite) (ans : WriteAnswer) (ch : ChannelId) (p : Paper) (k : Nat) (s : State),
    QuietGo w ch s → (s.ch ch).paper = some p → PaperOk p →
    (newCommand w (s.ch ch)).getLsbD 11 = false → (newCommand w (s.ch ch)).getLsbD 12 = false →
    (newCommand w (s.ch ch)).getLsbD 7 = true → (newCommand w (s.ch ch)).getLsbD 6 = true →
    (newCommand w (s.ch ch)).toNat % 16 = k → 1 ≤ k → k ≤ 12 →
    (∀ m, SkipLands p k m → RoomFor ch p m s →
      exec (.skipOnly w ans) s =
        .next ((carried ch p m (begun w ans ch s)).modCh ch
          (finished ((newCommand w (s.ch ch)).getLsbD 13)))) ∧
    (NeverPunched p k →
      exec (.skipOnly w ans) s =
        .next ((begun w ans ch s).modCh ch fun c =>
          { finished ((newCommand w (s.ch ch)).getLsbD 13) c with state := .halted, formStop := true }))

/-- A print-then-space GO whose line is whole in the shadow: the positions are translated, unprintable ones
counted, the strikes shifted and merged into the open form, the cells taken from the pool; the carriage
spaces; the operation completes, and the tally rises by 1 and is written back (R31 to R37, R65 to R67,
R49, R14, R19). -/
def Obligations.PrintThenSpace : Prop :=
  ∀ (w : BusWrite) (ans : WriteAnswer) (ch : ChannelId) (v : Word) (codes : Nat → Byte) (p : Paper)
    (s : State),
    PrintGo w ans ch v codes p s → PaperOk p →
    (newCommand w (s.ch ch)).getLsbD 11 = false → (newCommand w (s.ch ch)).getLsbD 12 = false →
    (newCommand w (s.ch ch)).getLsbD 7 = false → (newCommand w (s.ch ch)).getLsbD 6 = false →
    RoomFor ch p ((newCommand w (s.ch ch)).toNat % 4) s →
    exec (.printThenSpace w ans) s =
      .next { (carried ch
          (struck p (landing (rawStrikes s.setup.translation codes (min v.toNat 160) (s.ch ch))))
          ((newCommand w (s.ch ch)).toNat % 4)
          (linePlaced w ans ch codes (min v.toNat 160) p s)).modCh ch
            (fun c => { finished ((newCommand w (s.ch ch)).getLsbD 13) c with tally := c.tally + 1 })
        with ownQueue :=
          withTally ch (s.wordAddr (.control ch) 3) ((s.ch ch).tally + 1) s.ownQueue }

/-- A print-then-skip GO: as print-then-space, with the movement of a skip. A runaway skip leaves the line
placed and counted in the tally, moves nothing, and halts the channel with FORM-STOP (R50 to R52, R14). -/
def Obligations.PrintThenSkip : Prop :=
  ∀ (w : BusWrite) (ans : WriteAnswer) (ch : ChannelId) (v : Word) (codes : Nat → Byte) (p : Paper)
    (k : Nat) (s : State),
    PrintGo w ans ch v codes p s → PaperOk p →
    (newCommand w (s.ch ch)).getLsbD 11 = false → (newCommand w (s.ch ch)).getLsbD 12 = false →
    (newCommand w (s.ch ch)).getLsbD 7 = false → (newCommand w (s.ch ch)).getLsbD 6 = true →
    (newCommand w (s.ch ch)).toNat % 16 = k → 1 ≤ k → k ≤ 12 →
    (∀ m, SkipLands p k m → RoomFor ch p m s →
      exec (.printThenSkip w ans) s =
        .next { (carried ch
            (struck p (landing (rawStrikes s.setup.translation codes (min v.toNat 160) (s.ch ch)))) m
            (linePlaced w ans ch codes (min v.toNat 160) p s)).modCh ch
              (fun c => { finished ((newCommand w (s.ch ch)).getLsbD 13) c with tally := c.tally + 1 })
          with ownQueue :=
            withTally ch (s.wordAddr (.control ch) 3) ((s.ch ch).tally + 1) s.ownQueue }) ∧
    (NeverPunched p k →
      exec (.printThenSkip w ans) s =
        .next { (linePlaced w ans ch codes (min v.toNat 160) p s).modCh ch
              (fun c => { finished ((newCommand w (s.ch ch)).getLsbD 13) c with
                state := .halted, formStop := true, tally := c.tally + 1 })
          with ownQueue :=
            withTally ch (s.wordAddr (.control ch) 3) ((s.ch ch).tally + 1) s.ownQueue })

/-- Under CHECK a line with an unprintable position is refused: it is counted, nothing is struck, moved or
tallied, and the channel halts with CHECK and DONE (R35, R14). -/
def Obligations.CheckRefusesLine : Prop :=
  ∀ (w : BusWrite) (ans : WriteAnswer) (ch : ChannelId) (v : Word) (codes : Nat → Byte) (s : State),
    QuietGo w ch s → (s.ch ch).paper.isSome = true →
    (newCommand w (s.ch ch)).getLsbD 11 = false → (newCommand w (s.ch ch)).getLsbD 12 = false →
    (newCommand w (s.ch ch)).getLsbD 7 = false →
    ((newCommand w (s.ch ch)).getLsbD 6 = true →
      1 ≤ (newCommand w (s.ch ch)).toNat % 16 ∧ (newCommand w (s.ch ch)).toNat % 16 ≤ 12) →
    LineHeld (shadowHostWrite w ans s.shadow) s ch ((newCommand w (s.ch ch)).getLsbD 14) v codes →
    (s.ch ch).policy = .check → 0 < badCount s.setup.translation codes (min v.toNat 160) →
    ∀ i ∈ [Instr.printThenSpace w ans, .printThenSkip w ans],
      exec i s =
        .next ((begun w ans ch s).modCh ch fun c =>
          { finished ((newCommand w (s.ch ch)).getLsbD 13) c with
            state := .halted, check := true
            unprintable := saturated c.unprintable
              (badCount s.setup.translation codes (min v.toNat 160)) })

/-! ### Forms, cells and sheets (04, 05, 06) -/

/-- A strike list merged at a form line: a strike in a column without a cell makes one, a strike on a cell
with one or two strikes is added after them, a strike on a full cell is dropped; every other cell and every
other line is kept; the form grows by the cells needed and stays in order (R62, R63, R65 to R67). -/
def Obligations.MergeCells : Prop :=
  ∀ (p : Paper) (strikes : List Strike), PaperOk p → StrikesOk strikes →
    (∀ col, cellOf (struck p strikes).form p.pos col =
      match strikes.find? (fun k => decide (k.col = col)), cellOf p.form p.pos col with
      | none, old => old
      | some k, none => some ⟨col, [k.glyph], none⟩
      | some k, some c =>
        some (if c.strikes.length < 3 then { c with strikes := c.strikes ++ [k.glyph] } else c)) ∧
    (∀ line col, line ≠ p.pos → cellOf (struck p strikes).form line col = cellOf p.form line col) ∧
    (struck p strikes).form.cellCount = p.form.cellCount + needed p strikes ∧
    PaperOk (struck p strikes)

/-- Placement: a cell of a form line and column lies at the slot's origin plus the scaled column and the
scaled line, rounded half up; it is kept with those coordinates exactly when they lie on the sheet, and the
cells clipped are the others (R85, R87 to R91). -/
def Obligations.Placement : Prop :=
  ∀ (g : Geometry) (slot1 : Bool) (f : Form), FormOk f →
    (∀ line col c, cellOf f line col = some c →
      ∃ dx dy, Nearest (col * g.px * g.scale) dx ∧ Nearest (line * g.py * g.scale) dy ∧
        let x := (if slot1 then g.ox1 else g.ox0) + dx
        let y := (if slot1 then g.oy1 else g.oy0) + dy
        cellOf (placeForm g slot1 f) line col =
          if x < g.width ∧ y < g.height then some { c with xy := some (x, y) } else none) ∧
    (∀ line col, cellOf f line col = none → cellOf (placeForm g slot1 f) line col = none) ∧
    (placeForm g slot1 f).cellCount + clippedCells g slot1 f = f.cellCount

/-- A closed form is routed by the layout: in 1-up it enters the queue as a sheet of its own; in 2-up it
becomes the pending sheet's slot 0, or its slot 1, and then the sheet enters the queue (R71, R72, R85, R86,
R91, R92, R97 to R99, R106). -/
def Obligations.CloseRoutes : Prop :=
  ∀ (ch : ChannelId) (f : Form) (s : State),
    ((s.ch ch).layout.geo.twoUp = false → routeClose ch f s = entered ch f none s) ∧
    ((s.ch ch).layout.geo.twoUp = true → (s.ch ch).pendSheet = none →
      routeClose ch f s = s.modCh ch fun c => { c with pendSheet := some f }) ∧
    (∀ f0, (s.ch ch).layout.geo.twoUp = true → (s.ch ch).pendSheet = some f0 →
      routeClose ch f s =
        entered ch f0 (some f) (s.modCh ch fun c => { c with pendSheet := none }))

/-- A line that needs cells waits whole, at the tail of the wait list, when others wait or the pool has too
few; the channel stays BUSY with its strike list, and no cell is taken. When it joins with the sheet queue
empty, forms are broken and a sheet stands in the queue afterwards; where one form is the victim and clips
nothing, that form is broken and its break counted (R65, R68, R75, R76, R37). -/
def Obligations.LineWaitsForCells : Prop :=
  ∀ (w : BusWrite) (ans : WriteAnswer) (ch : ChannelId) (v : Word) (codes : Nat → Byte) (p : Paper)
    (s : State),
    LineGo w ans ch v codes p s →
    (newCommand w (s.ch ch)).getLsbD 11 = false → (newCommand w (s.ch ch)).getLsbD 12 = false →
    (newCommand w (s.ch ch)).getLsbD 7 = false →
    let strikes := landing (rawStrikes s.setup.translation codes (min v.toNat 160) (s.ch ch))
    let waits (kind : OpKind) (count : Nat) : State :=
      { (begun w ans ch s).modCh ch (fun c =>
          { lineCounted s.setup.translation codes (min v.toNat 160) c with
            state := .busy (opOf (newCommand w (s.ch ch)) kind count (.placing strikes)) }) with
        cellWait := s.cellWait ++ [ch] }
    let joins (i : Instr) (kind : OpKind) (count : Nat) : Prop :=
      (s.queue ≠ [] → exec i s = .next (waits kind count)) ∧
      (s.queue = [] → s.cellWait = [] →
        (CellsTotal s → ChannelsOk s → ∃ t, exec i s = .next t ∧ t.queue ≠ []) ∧
        ((s.ch ch).pendSheet = none →
          ∀ (u : ChannelId) (q : Paper), Victim ch p u q s →
            exec i s =
              .next ((entered u q.form none ((waits kind count).modCh u fun c =>
                { c with paper := some (broken q) })).modCh u fun c =>
                  { c with forcedBreaks := saturated c.forcedBreaks 1 })))
    0 < needed p strikes → (s.cellWait ≠ [] ∨ s.freeCells < needed p strikes) →
    ((newCommand w (s.ch ch)).getLsbD 6 = false →
      joins (.printThenSpace w ans) .printSpace ((newCommand w (s.ch ch)).toNat % 4)) ∧
    ((newCommand w (s.ch ch)).getLsbD 6 = true → 1 ≤ (newCommand w (s.ch ch)).toNat % 16 →
      (newCommand w (s.ch ch)).toNat % 16 ≤ 12 →
      joins (.printThenSkip w ans) .printSkip ((newCommand w (s.ch ch)).toNat % 16))

/-- A movement whose close would make a sheet enter a full queue is not made: the operation waits in MOVING
and its channel joins the room-wait list; nothing has moved or closed. A print's line has been placed by
then; a LOAD-TAPE keeps the old tape and holds the new one (R47, R54, R100). -/
def Obligations.MoveWaitsForRoom : Prop :=
  ∀ (w : BusWrite) (ans : WriteAnswer) (ch : ChannelId) (p : Paper) (s : State),
    QuietGo w ch s → (s.ch ch).paper = some p → PaperOk p →
    (newCommand w (s.ch ch)).getLsbD 11 = false →
    8 ≤ s.queue.length → Claim.move ch ∉ s.roomWait →
    ((s.ch ch).layout.geo.twoUp = false ∨ (s.ch ch).pendSheet.isSome = true) →
    let waits (op : Op) (t : State) : State :=
      { t.modCh ch (fun c => { c with state := .busy op }) with
        roomWait := (s.roomWait.filter fun x => decide (x ≠ .runOut ch)) ++ [.move ch] }
    ((newCommand w (s.ch ch)).getLsbD 12 = false → (newCommand w (s.ch ch)).getLsbD 7 = true →
      ((newCommand w (s.ch ch)).getLsbD 6 = false →
        p.tape.masks.length ≤ p.pos + (newCommand w (s.ch ch)).toNat % 4 →
        exec (.spaceOnly w ans) s =
          .next (waits (opOf (newCommand w (s.ch ch)) .spaceOnly ((newCommand w (s.ch ch)).toNat % 4)
            (.moving none)) (begun w ans ch s))) ∧
      (∀ k m, (newCommand w (s.ch ch)).getLsbD 6 = true → (newCommand w (s.ch ch)).toNat % 16 = k →
        1 ≤ k → k ≤ 12 → SkipLands p k m → p.tape.masks.length ≤ p.pos + m →
        exec (.skipOnly w ans) s =
          .next (waits (opOf (newCommand w (s.ch ch)) .skipOnly k (.moving none)) (begun w ans ch s)))) ∧
    (∀ v codes, PrintGo w ans ch v codes p s → (newCommand w (s.ch ch)).getLsbD 12 = false →
      (newCommand w (s.ch ch)).getLsbD 7 = false →
      let placed := linePlaced w ans ch codes (min v.toNat 160) p s
      ((newCommand w (s.ch ch)).getLsbD 6 = false →
        p.tape.masks.length ≤ p.pos + (newCommand w (s.ch ch)).toNat % 4 →
        exec (.printThenSpace w ans) s =
          .next (waits { opOf (newCommand w (s.ch ch)) .printSpace ((newCommand w (s.ch ch)).toNat % 4)
            (.moving none) with linePlaced := true } placed)) ∧
      (∀ k m, (newCommand w (s.ch ch)).getLsbD 6 = true → (newCommand w (s.ch ch)).toNat % 16 = k →
        1 ≤ k → k ≤ 12 → SkipLands p k m → p.tape.masks.length ≤ p.pos + m →
        exec (.printThenSkip w ans) s =
          .next (waits { opOf (newCommand w (s.ch ch)) .printSkip k (.moving none) with
            linePlaced := true } placed))) ∧
    (∀ words : List Word, (newCommand w (s.ch ch)).getLsbD 12 = true →
      12 ≤ words.length → words.length ≤ 192 →
      Holds (shadowHostWrite w ans s.shadow) (s.wordAddr (.tape ch) 0) (BitVec.ofNat 16 words.length) →
      (∀ i, i < words.length → Holds (shadowHostWrite w ans s.shadow) (s.wordAddr (.tape ch) (i + 1))
        (words.getD i 0)) →
      (0 < p.pos ∨ 0 < (p.form.lines.map fun l => l.cells.length).sum) →
      exec (.loadTape w ans) s =
        .next (waits ⟨.loadTape, false, 0, (newCommand w (s.ch ch)).getLsbD 13,
          .moving (some ⟨words.map fun v => v.extractLsb' 0 12⟩), false⟩ (begun w ans ch s)))

/-- The head waiting line is retried: when its cells are there it leaves the list, is merged, moves and
completes; when they are not, and the queue holds a sheet, nothing changes; when the queue is empty, forms
are broken and a sheet stands in the queue afterwards, so that its cells will come back (R69, R75, R76,
R80). -/
def Obligations.CellWaitRetry : Prop :=
  ∀ (ch : ChannelId) (op : Op) (strikes : List Strike) (p : Paper) (s : State),
    (s.ch ch).state = .busy op → op.stage = .placing strikes → op.kind = .printSpace → op.count ≤ 3 →
    (s.ch ch).paper = some p →
    (PaperOk p → s.cellWait = [ch] → needed p strikes ≤ s.freeCells →
      (s.ch ch).pendStop = false → (s.ch ch).pendEject = false →
      RoomFor ch p op.count { s with cellWait := [] } →
      exec .cellWaitRetry s =
        .next { (carried ch (struck p strikes) op.count
            { s.modCh ch (fun c =>
                { c with paper := some (struck p strikes)
                         droppedStrikes := saturated c.droppedStrikes (overfull p strikes) }) with
              cellWait := [], freeCells := s.freeCells - needed p strikes }).modCh ch
              (fun c => { finished op.ie c with tally := c.tally + 1 })
          with ownQueue :=
            withTally ch (s.wordAddr (.control ch) 3) ((s.ch ch).tally + 1) s.ownQueue }) ∧
    (∀ rest, s.cellWait = ch :: rest → s.freeCells < needed p strikes →
      (s.queue ≠ [] → exec .cellWaitRetry s = .next s) ∧
      (s.queue = [] → CellsTotal s → ChannelsOk s →
        ∃ t, exec .cellWaitRetry s = .next t ∧ t.queue ≠ []))

/-- A forced break: the waiting channel's own form when it holds cells, otherwise the form with the most
cells, the lowest channel winning a tie, is broken and enters the queue, and the break is counted
(R75, R76, R81). Stated for 1-up channels whose sheets clip nothing. -/
def Obligations.ForcedBreak : Prop :=
  ∀ (ch : ChannelId) (rest : List ChannelId) (op : Op) (strikes : List Strike) (p : Paper) (s : State),
    s.cellWait = ch :: rest → s.queue = [] → s.link.state ≠ .idleUp →
    (s.ch ch).state = .busy op → op.stage = .placing strikes → (s.ch ch).paper = some p →
    s.freeCells < needed p strikes → (s.ch ch).pendSheet = none →
    ∀ (v : ChannelId) (q : Paper),
      (s.ch v).paper = some q → 0 < q.form.cellCount → (s.ch v).layout.geo.twoUp = false →
      (s.ch v).pendSheet = none → clippedCells (s.ch v).layout.geo false q.form = 0 →
      (v = ch ∨
        (p.form.cellCount = 0 ∧
          ∀ u : ChannelId, u ≠ v → (s.ch u).openCells ≤ q.form.cellCount ∧
            (u.toNat < v.toNat → (s.ch u).openCells < q.form.cellCount))) →
      exec .cellWaitRetry s =
        .next ((entered v q.form none (s.modCh v fun c => { c with paper := some (broken q) })).modCh v
          fun c => { c with forcedBreaks := saturated c.forcedBreaks 1 })

/-- The tick that brings the run-out counter to 0: with room the open form, when it holds cells, is broken,
a pending sheet goes with it, and the sheet enters the queue; with the queue full the action stays due and
its channel joins the room-wait list (R77, R78, R100). -/
def Obligations.RunOut : Prop :=
  ∀ (ch : ChannelId) (s : State), RunsOut ch s →
    (∀ p, (s.ch ch).paper = some p → 0 < p.form.cellCount → (s.ch ch).pendSheet = none →
      s.queue.length < 8 → s.cellWait = [] →
      exec (.runOut ch) s =
        .next (entered ch p.form none (s.modCh ch fun c =>
          { c with runOut := 0, paper := some (broken p) }))) ∧
    (∀ p f0, (s.ch ch).paper = some p → 0 < p.form.cellCount → (s.ch ch).pendSheet = some f0 →
      (s.ch ch).layout.geo.twoUp = true → s.queue.length < 8 → s.cellWait = [] →
      exec (.runOut ch) s =
        .next (entered ch f0 (some p.form) (s.modCh ch fun c =>
          { c with runOut := 0, paper := some (broken p), pendSheet := none }))) ∧
    (∀ p f0, (s.ch ch).paper = some p → p.form.cellCount = 0 → (s.ch ch).pendSheet = some f0 →
      s.queue.length < 8 → s.cellWait = [] →
      exec (.runOut ch) s =
        .next (entered ch f0 none (s.modCh ch fun c => { c with runOut := 0, pendSheet := none }))) ∧
    (∀ p, (s.ch ch).paper = some p → (0 < p.form.cellCount ∨ (s.ch ch).pendSheet.isSome = true) →
      8 ≤ s.queue.length → Claim.runOut ch ∉ s.roomWait →
      exec (.runOut ch) s =
        .next { s.modCh ch (fun c => { c with runOut := 0, runOutDue := true }) with
          roomWait := s.roomWait ++ [.runOut ch] })

/-- A free queue place falls to the first claimant of the room-wait list. A waiting move leaves the list and
is made: the walk, the close, the sheet's entry, the completion. A run-out action held due leaves it and is
taken: the open form is broken and its sheet enters the queue. With the queue full nothing changes, which is
the model's reading of these commands (R54, R78, R100; log entry 9). -/
def Obligations.RoomWaitTaken : Prop :=
  (∀ (ch : ChannelId) (op : Op) (rest : List Claim) (p : Paper) (s : State),
    s.roomWait = .move ch :: rest → Claim.move ch ∉ rest → s.queue.length < 8 → s.cellWait = [] →
    (s.ch ch).state = .busy op → op.stage = .moving none → op.kind = .spaceOnly → op.count ≤ 3 →
    (s.ch ch).paper = some p → PaperOk p → p.tape.masks.length ≤ p.pos + op.count →
    (s.ch ch).pendStop = false → (s.ch ch).pendEject = false →
    exec .roomWaitMove s =
      .next ((routeClose ch p.form
        ({ s with roomWait := rest }.modCh ch (movedOnto p op.count))).modCh ch (finished op.ie))) ∧
  (∀ (ch : ChannelId) (rest : List Claim) (p : Paper) (s : State),
    s.roomWait = .runOut ch :: rest → Claim.runOut ch ∉ rest → s.queue.length < 8 → s.cellWait = [] →
    (s.ch ch).paper = some p → 0 < p.form.cellCount → (s.ch ch).pendSheet = none →
    exec .roomWaitRunOut s =
      .next (entered ch p.form none ({ s with roomWait := rest }.modCh ch fun c =>
        { c with runOutDue := false, paper := some (broken p) }))) ∧
  (∀ s : State, 8 ≤ s.queue.length →
    exec .roomWaitMove s = .next s ∧ exec .roomWaitRunOut s = .next s)

/-! ### Invariants, power-on and reset -/

/-- The state after reset: every channel OFFLINE with its registers clear, the layout of power-on, the pool
whole, the queue empty, the link DOWN with the reply timeout 20, every shadow byte invalid, every
translation entry unprintable, every switch CLOSED. The strap value 0 of the setup window is the model's
choice (log entry 1), as are the policy, the substitute glyph and the shift (log entry 21). It meets every
invariant. -/
def Obligations.ResetState : Prop :=
  (∀ ch : ChannelId, State.reset.ch ch = Channel.powerOn) ∧
  (Channel.powerOn.state = .offline ∧ Channel.powerOn.goMode = .strobe ∧ Channel.powerOn.merged = 0 ∧
    Channel.powerOn.paper = none ∧ Channel.powerOn.pendSheet = none ∧ Channel.powerOn.tally = 0 ∧
    Channel.powerOn.stall = 0 ∧ Channel.powerOn.request = false ∧ Channel.powerOn.lastDropped = none ∧
    Channel.powerOn.layout = ⟨⟨60, 100, 4096, false, 0, 0, 0, 0, 6600, 5100⟩, 0⟩) ∧
  State.reset.windows = [⟨65504, .setup⟩] ∧ (∀ b, State.reset.shadow.read b = none) ∧
  State.reset.ownQueue = [] ∧ State.reset.freeCells = 24576 ∧ State.reset.queue = [] ∧
  State.reset.sheetCounter = 0 ∧ State.reset.link.state = .down ∧ State.reset.link.replyTimeout = 20 ∧
  State.reset.setup.result = .none ∧ State.reset.setup.apply = none ∧
  (∀ i, i < 256 → State.reset.setup.translation.getD i .blank = .unprintable) ∧
  (∀ g, g < 64 → State.reset.setup.glyphCodes.getD g 999 = BitVec.ofNat 16 g) ∧
  State.reset.panel = ⟨.closed, .closed, .closed, .c0⟩ ∧
  PrintInv State.reset ∧ PathInv State.reset ∧ TablesOk State.reset

/-- POWER_ON puts the part into the state after reset, with the setup window 32 words below the top of the
bank that the straps name; only the model's queue of commands stays (R2, R122; log entry 16). -/
def Obligations.PowerOn : Prop :=
  ∀ (straps : BitVec 4) (s : State), ∃ base : Addr,
    base.toNat = 65536 * (straps.toNat + 1) - 32 ∧
    exec (.powerOn straps) s =
      .next { State.reset with windows := [⟨base, .setup⟩], pending := s.pending }

/-- Every step keeps the cells: free cells and cells held in open forms, pending sheets and queued sheets
total 24,576, while every channel, tape, form, cell and operation keeps its shape (R61, R62, R63, R41). -/
def Obligations.CellPoolKept : Prop :=
  ∀ s t : State, CellsTotal s ∧ ChannelsOk s → step s = .next t → CellsTotal t ∧ ChannelsOk t

/-- Every step keeps the wait lists: the lines in PLACING are the channels on the wait list, and the moves
in MOVING and the run-out actions held due are the claimants on the room-wait list, each once
(R12, R68, R100). -/
def Obligations.WaitListsKept : Prop :=
  ∀ s t : State, ChannelsOk s ∧ CellWaitOk s ∧ RoomWaitOk s → step s = .next t →
    ChannelsOk t ∧ CellWaitOk t ∧ RoomWaitOk t

/-- Every step keeps the sheet queue at 8 sheets or fewer, each placed within its sheet, and the link state
fitting the queue (R90, R97, R98, R102, R113). -/
def Obligations.QueueAndLinkKept : Prop :=
  ∀ s t : State, ChannelsOk s ∧ QueueOk s ∧ LinkFitsQueue s → step s = .next t →
    ChannelsOk t ∧ QueueOk t ∧ LinkFitsQueue t

/-- Every step keeps the window table: one SETUP entry, no two windows sharing an address, every window
inside the address space, three windows for each channel that is not OFFLINE and none for one that is
(R1, R2, R122, R123). -/
def Obligations.WindowsKept : Prop :=
  ∀ s t : State, WindowsOk s ∧ BindingOk s → step s = .next t → WindowsOk t ∧ BindingOk t

/-- Every step keeps the shadow in its canonical form, with bytes of windows only (R123 to R126). -/
def Obligations.ShadowKept : Prop :=
  ∀ s t : State, ShadowOk s → step s = .next t → ShadowOk t

/-- Every step keeps the own-cycle queue at 12 FETCH entries and one TALLY-WRITE a channel, the passed-over
count at 32, and the device tables at their sizes (R129, R133, R137). -/
def Obligations.BoundsKept : Prop :=
  ∀ s t : State, OwnQueueOk s ∧ s.passedOver ≤ 32 ∧ TablesOk s → step s = .next t →
    OwnQueueOk t ∧ t.passedOver ≤ 32 ∧ TablesOk t

/-- A host bus reset: no channel is BUSY or HALTED, flags, requests, pending panel actions and merged values
are dropped, no line, move or operation fetch waits any more, an unpassed host cycle is withdrawn, the
passed-over count is 0, and windows, shadow, panel, GO modes and layouts stay. When no line waited for cells
and no record was being applied, nothing else changes. The order operand, the mark of an abandoned FETCH in
progress and the previous merged value that is kept are the model's (R3, R22, R40, R57, R70, R136; log
entries 12, 24, 26). -/
def Obligations.HostBusReset : Prop :=
  (∀ (order : List ChannelId) (s : State), ∃ t, exec (.hostBusReset order) s = .next t ∧
    (∀ ch, (t.ch ch).state.isBusy = false ∧ (t.ch ch).state ≠ .halted ∧ (t.ch ch).done = false ∧
      (t.ch ch).reject = false ∧ (t.ch ch).check = false ∧ (t.ch ch).formStop = false ∧
      (t.ch ch).request = false ∧ (t.ch ch).pendStop = false ∧ (t.ch ch).pendEject = false ∧
      (t.ch ch).merged = 0 ∧ (t.ch ch).prevSample = 0 ∧ (t.ch ch).stall = 0 ∧
      (t.ch ch).goMode = (s.ch ch).goMode ∧ (t.ch ch).layout = (s.ch ch).layout) ∧
    t.cellWait = [] ∧ (∀ ch, Claim.move ch ∉ t.roomWait) ∧ t.presented = none ∧ t.passedOver = 0 ∧
    (∀ ch f, OwnEntry.fetch (.operation ch) f ∉ t.ownQueue) ∧
    (∀ ch, Requester.operation ch ∉ t.placeWait) ∧
    t.windows = s.windows ∧ t.shadow = s.shadow ∧ t.panel = s.panel) ∧
  (∀ (order : List ChannelId) (s : State),
    s.cellWait = [] → s.setup.apply = none → (∀ r ∈ s.placeWait, ∃ ch, r = .operation ch) →
    exec (.hostBusReset order) s =
      .next { s with
        presented := none, passedOver := 0, placeWait := []
        ownQueue := s.ownQueue.filter fun e => !e.isFetch
        ownCycle := s.ownCycle.map fun e =>
          match e with
          | .fetch (.operation ch) f => .fetch (.abandoned ch) f
          | e => e
        chans := ⟨afterReset s.chans.ch0, afterReset s.chans.ch1, afterReset s.chans.ch2,
          afterReset s.chans.ch3⟩
        roomWait := s.roomWait.filter fun x =>
          match x with
          | .move _ => false
          | .runOut _ => true })

/-! ### The panel and the ticks (09) -/

/-- STOP and START at the selected channel: a STOP takes IDLE to STOPPED and in BUSY becomes pending; a
START takes STOPPED to IDLE and in BUSY clears a pending STOP, and releases a link in WAIT-OPERATOR for a
new emission with attempts 0, whatever the channel. A switch already CLOSED makes no event (R117, R154 to
R158). -/
def Obligations.StopAndStart : Prop :=
  (∀ s : State, s.panel.stopSwitch = .opened →
    exec .stop s =
      .next ({ s with panel := { s.panel with stopSwitch := .closed } }.modCh s.panel.selector fun c =>
        match c.state with
        | .idle => { c with state := .stopped }
        | .busy _ => { c with pendStop := true }
        | _ => c)) ∧
  (∀ s : State, s.panel.startSwitch = .opened →
    let t := { s with panel := { s.panel with startSwitch := .closed } }.modCh s.panel.selector fun c =>
      match c.state with
      | .stopped => { c with state := .idle }
      | .busy _ => { c with pendStop := false }
      | _ => c
    (s.link.state ≠ .waitOperator → exec .start s = .next t) ∧
    (∀ sh rest, s.link.state = .waitOperator → s.queue = sh :: rest →
      exec .start s =
        .next (begins ({ sh with attempts := 0 } :: rest) s.link
          { t with queue := { sh with attempts := 0 } :: rest }))) ∧
  (∀ s : State, s.panel.stopSwitch = .closed → exec .stop s = .next s) ∧
  (∀ s : State, s.panel.startSwitch = .closed → exec .start s = .next s)

/-- EJECT, pressed or pending, and a pending STOP. An EJECT at the selected channel: from IDLE or STOPPED,
with movement to make and room, the carriage walks to line 0 of the next form, the form is closed and routed,
and the channel is back in its state with no completion; with nothing to move, or OFFLINE or HALTED, nothing
happens; in BUSY the EJECT is pending; with no room it waits in MOVING. At a completion, here a LOAD-TAPE
refused for a length that memory does not give: a pending EJECT with movement to make runs at once, or waits
for room, and leaves the pending STOP to its end; without movement it is dropped, and the pending STOP is
applied (R14, R15, R54, R56, R159, R160; log entry 11). -/
def Obligations.Eject : Prop :=
  (∀ (ch : ChannelId) (s : State), s.panel.ejectSwitch = .opened → s.panel.selector = ch →
    let pressed := { s with panel := { s.panel with ejectSwitch := .closed } }
    let starts : State :=
      { pressed.modCh ch (fun c => { c with runOutDue := false }) with
        roomWait := s.roomWait.filter fun x => decide (x ≠ .runOut ch) }
    (∀ p, (s.ch ch).paper = some p → PaperOk p → (0 < p.pos ∨ 0 < p.form.cellCount) →
      ((s.ch ch).state = .idle ∧ (s.ch ch).pendStop = false) ∨ (s.ch ch).state = .stopped →
      s.cellWait = [] →
      ((((s.ch ch).layout.geo.twoUp = true ∧ (s.ch ch).pendSheet = none) ∨ s.queue.length < 8) →
        exec .eject s =
          .next ((routeClose ch p.form (starts.modCh ch (movedOnto p (p.tape.masks.length - p.pos)))).modCh
            ch fun c =>
              { c with state := (s.ch ch).state, pendStop := false, pendEject := false, stall := 0
                       runOut := c.layout.runOut })) ∧
      (((s.ch ch).layout.geo.twoUp = false ∨ (s.ch ch).pendSheet.isSome = true) → 8 ≤ s.queue.length →
        Claim.move ch ∉ s.roomWait →
        exec .eject s =
          .next { starts.modCh ch (fun c =>
              { c with state := .busy ⟨.eject, false, 0, false, .moving none, false⟩
                       pendStop := c.pendStop || decide (c.state = .stopped) }) with
            roomWait := starts.roomWait ++ [.move ch] })) ∧
    ((s.ch ch).state = .offline ∨ (s.ch ch).state = .halted ∨
        (((s.ch ch).state = .idle ∨ (s.ch ch).state = .stopped) ∧
          ∀ p ∈ (s.ch ch).paper, p.pos = 0 ∧ p.form.cellCount = 0) →
      exec .eject s = .next pressed) ∧
    (∀ op, (s.ch ch).state = .busy op →
      exec .eject s = .next (pressed.modCh ch fun c => { c with pendEject := true }))) ∧
  (∀ (ch : ChannelId) (f : FetchWord) (op : Op) (r : TapeRec) (s : State),
    Fetching ch f (.tape 0) op s → op.kind = .loadTape → op.stage = .takingTape r →
    (r.words.getD 0 lackingWord).hi = none →
    ∃ mem, FetchedShadow f.addr .noResponse s mem ∧
      let t := (fetchEnded s mem).modCh ch fun c => finished op.ie { c with reject := true }
      let starts : State :=
        { t.modCh ch (fun c => { c with runOutDue := false, pendEject := false }) with
          roomWait := s.roomWait.filter fun x => decide (x ≠ .runOut ch) }
      ((s.ch ch).pendEject = false → (s.ch ch).pendStop = true →
        exec (.fetchAnswer .noResponse) s =
          .next (t.modCh ch fun c => { c with state := .stopped, pendStop := false })) ∧
      ((s.ch ch).pendEject = true → (∀ p ∈ (s.ch ch).paper, p.pos = 0 ∧ p.form.cellCount = 0) →
        exec (.fetchAnswer .noResponse) s =
          .next (t.modCh ch fun c =>
            { c with state := if c.pendStop then .stopped else .idle, pendStop := false
                     pendEject := false })) ∧
      (∀ p, (s.ch ch).pendEject = true → (s.ch ch).paper = some p → PaperOk p →
        (0 < p.pos ∨ 0 < p.form.cellCount) → s.cellWait = [] →
        ((((s.ch ch).layout.geo.twoUp = true ∧ (s.ch ch).pendSheet = none) ∨ s.queue.length < 8) →
          exec (.fetchAnswer .noResponse) s =
            .next ((routeClose ch p.form
                (starts.modCh ch (movedOnto p (p.tape.masks.length - p.pos)))).modCh ch fun c =>
              { c with state := if c.pendStop then .stopped else .idle, pendStop := false })) ∧
        (((s.ch ch).layout.geo.twoUp = false ∨ (s.ch ch).pendSheet.isSome = true) → 8 ≤ s.queue.length →
          Claim.move ch ∉ s.roomWait →
          exec (.fetchAnswer .noResponse) s =
            .next { starts.modCh ch (fun c =>
                { c with state := .busy ⟨.eject, false, 0, false, .moving none, false⟩ }) with
              roomWait := starts.roomWait ++ [.move ch] })))

/-- SELECTOR_CHANGE gives the selector its new position and SWITCH_RELEASE recognizes a switch OPEN; neither
does anything else, and a press of a switch already CLOSED, an EJECT here, makes no event (R154, R155). -/
def Obligations.SelectorAndSwitch : Prop :=
  (∀ (x : ChannelId) (s : State),
    exec (.selectorChange x) s = .next { s with panel := { s.panel with selector := x } }) ∧
  (∀ s : State,
    exec (.switchRelease .stop) s = .next { s with panel := { s.panel with stopSwitch := .opened } }) ∧
  (∀ s : State,
    exec (.switchRelease .start) s = .next { s with panel := { s.panel with startSwitch := .opened } }) ∧
  (∀ s : State,
    exec (.switchRelease .eject) s = .next { s with panel := { s.panel with ejectSwitch := .opened } }) ∧
  (∀ s : State, s.panel.ejectSwitch = .closed → exec .eject s = .next s)

/-- A channel's tick: none in OFFLINE; the stall counter rises in BUSY; the run-out counter counts in IDLE
and STOPPED while there is something to run out and no action is due; under SAMPLED the merged value is
sampled, and a sample whose GO rose is a GO: refused in BUSY, in STOPPED and where no tape or no valid count
is there; a CLEAR taken in IDLE, STOPPED and HALTED; in IDLE a space or skip is made. A run-out action that
the same tick makes due is taken before the GO, and where the queue is full the GO drops it (R6, R8, R10,
R21, R77, R78, R153). -/
def Obligations.ChannelTick : Prop :=
  ∀ (ch : ChannelId) (s : State),
    ((s.ch ch).state = .offline → exec (.channelTick ch) s = .next s) ∧
    (∀ op, (s.ch ch).state = .busy op → (s.ch ch).goMode ≠ .sampled →
      exec (.channelTick ch) s =
        .next (s.modCh ch fun c => { c with stall := saturated c.stall 1 })) ∧
    ((s.ch ch).state = .halted → (s.ch ch).goMode ≠ .sampled → exec (.channelTick ch) s = .next s) ∧
    (((s.ch ch).state = .idle ∨ (s.ch ch).state = .stopped) → (s.ch ch).goMode ≠ .sampled →
      (1 < (s.ch ch).runOut → (s.ch ch).runOutDue = false →
        (0 < (s.ch ch).openCells ∨ (s.ch ch).pendSheet.isSome = true) →
        exec (.channelTick ch) s =
          .next (s.modCh ch fun c => { c with runOut := c.runOut - 1 })) ∧
      ((s.ch ch).runOut = 0 ∨ (s.ch ch).runOutDue = true ∨
          ((s.ch ch).openCells = 0 ∧ (s.ch ch).pendSheet = none) →
        exec (.channelTick ch) s = .next s)) ∧
    (∀ op, (s.ch ch).state = .busy op → (s.ch ch).goMode = .sampled →
      exec (.channelTick ch) s =
        .next (s.modCh ch fun c =>
          { c with stall := saturated c.stall 1, prevSample := c.merged
                   reject := c.reject ||
                     (c.merged.getLsbD 15 && !c.prevSample.getLsbD 15) })) ∧
    ((s.ch ch).state = .halted → (s.ch ch).goMode = .sampled → (s.ch ch).tally = 0 →
      (s.ch ch).merged.getLsbD 15 = true → (s.ch ch).prevSample.getLsbD 15 = false →
      (s.ch ch).merged.getLsbD 11 = true →
      exec (.channelTick ch) s =
        .next (s.modCh ch fun c =>
          { c with state := .idle, prevSample := c.merged, check := false, formStop := false
                   reject := false, done := false, overflow := false, ch9 := false, tally := 0
                   request := false, stall := 0 })) ∧
    (((s.ch ch).state = .idle ∨ (s.ch ch).state = .stopped) → (s.ch ch).goMode = .sampled →
      ¬ (counting (s.ch ch) ∧ (s.ch ch).runOut = 1) →
      (¬ GoRises (s.ch ch) → exec (.channelTick ch) s = .next (s.modCh ch ticked)) ∧
      (GoRises (s.ch ch) → (s.ch ch).merged.getLsbD 11 = true →
        let t := s.modCh ch fun c =>
          { ticked c with check := false, formStop := false, reject := false, done := false
                          overflow := false, ch9 := false, tally := 0, request := false, stall := 0 }
        exec (.channelTick ch) s =
          .next (if (s.ch ch).tally = 0 then t else
            { t with ownQueue := withTally ch (s.wordAddr (.control ch) 3) 0 s.ownQueue })) ∧
      (GoRises (s.ch ch) → (s.ch ch).merged.getLsbD 11 = false →
        ((s.ch ch).state = .stopped ∨
          ((s.ch ch).merged.getLsbD 12 = false ∧
            ((s.ch ch).paper = none ∨
              ((s.ch ch).merged.getLsbD 6 = true ∧
                ((s.ch ch).merged.toNat % 16 = 0 ∨ 12 < (s.ch ch).merged.toNat % 16))))) →
        exec (.channelTick ch) s = .next (s.modCh ch fun c => { ticked c with reject := true })) ∧
      (∀ p m, GoRises (s.ch ch) → (s.ch ch).state = .idle → (s.ch ch).paper = some p → PaperOk p →
        MoveSampled p m (s.ch ch) → RoomFor ch p m s → (s.ch ch).pendStop = false →
        (s.ch ch).pendEject = false →
        exec (.channelTick ch) s =
          .next ((carried ch p m
            { s.modCh ch (fun c => { ticked c with runOutDue := false }) with
              roomWait := s.roomWait.filter fun x => decide (x ≠ .runOut ch) }).modCh ch
            (finished ((s.ch ch).merged.getLsbD 13))))) ∧
    (∀ p, ((s.ch ch).state = .idle ∨ (s.ch ch).state = .stopped) → (s.ch ch).goMode = .sampled →
      (s.ch ch).runOut = 1 → (s.ch ch).runOutDue = false → (s.ch ch).paper = some p → PaperOk p →
      0 < p.form.cellCount → (s.ch ch).pendSheet = none → s.cellWait = [] →
      (s.queue.length < 8 →
        let out := entered ch p.form none (s.modCh ch fun c => { c with runOut := 0, paper := some (broken p) })
        (¬ GoRises (s.ch ch) →
          exec (.channelTick ch) s = .next (out.modCh ch fun c => { c with prevSample := c.merged })) ∧
        (∀ m, (s.ch ch).state = .idle → GoRises (s.ch ch) → MoveSampled p m (s.ch ch) →
          p.pos + m < p.tape.masks.length → (s.ch ch).pendStop = false → (s.ch ch).pendEject = false →
          exec (.channelTick ch) s =
            .next ((carried ch (broken p) m
              { out.modCh ch (fun c => { c with prevSample := c.merged }) with
                roomWait := s.roomWait.filter fun x => decide (x ≠ .runOut ch) }).modCh ch
              (finished ((s.ch ch).merged.getLsbD 13))))) ∧
      (∀ m, (s.ch ch).state = .idle → 8 ≤ s.queue.length → GoRises (s.ch ch) →
        MoveSampled p m (s.ch ch) → p.pos + m < p.tape.masks.length → (s.ch ch).pendStop = false →
        (s.ch ch).pendEject = false →
        exec (.channelTick ch) s =
          .next ((carried ch p m
            { s.modCh ch (fun c => { c with runOut := 0, prevSample := c.merged }) with
              roomWait := s.roomWait.filter fun x => decide (x ≠ .runOut ch) }).modCh ch
            (finished ((s.ch ch).merged.getLsbD 13)))))

/-- The link controller's ticks: nothing in DOWN; the tick that brings the silence counter to 3 is a link
loss; otherwise silence rises, the reply timer counts in AWAITING and the backoff timer in BACKOFF, whose
reaching 0 begins a whole new emission. LINK_LOSS and BACKOFF_END are those ticks, and no event where the
tick would not bring it. That a stopped or dropped timer and the count of rows sent then read 0, and that a
hunting receiver forgets a preamble byte, are the model's choices (R103, R105, R109, R115; log entries 8, 22,
28). -/
def Obligations.LinkTicks : Prop :=
  ∀ s : State,
    (s.link.state = .down → exec .linkTick s = .next s ∧ exec .linkLoss s = .next s) ∧
    (s.link.state ≠ .down → 2 ≤ s.link.silence →
      let t := { s with link := { s.link with
        state := .down, rowsSent := 0, silence := 0, pulses := 0, replyTimer := 0, backoffTimer := 0
        receiver := .hunting false, losses := saturated s.link.losses 1 } }
      exec .linkTick s = .next t ∧ exec .linkLoss s = .next t ∧ exec .backoffEnd s = .next s) ∧
    (s.link.silence < 2 → exec .linkLoss s = .next s) ∧
    (s.link.silence < 2 →
      s.link.state = .training ∨ s.link.state = .idleUp ∨ s.link.state = .sending ∨
        s.link.state = .waitOperator →
      exec .linkTick s = .next { s with link := { s.link with silence := s.link.silence + 1 } }) ∧
    (s.link.silence < 2 → s.link.state = .awaiting → 1 < s.link.replyTimer →
      exec .linkTick s = .next { s with link := { s.link with
        silence := s.link.silence + 1, replyTimer := s.link.replyTimer - 1 } }) ∧
    (s.link.silence < 2 → s.link.state = .backoff → 1 < s.link.backoffTimer →
      exec .linkTick s = .next { s with link := { s.link with
        silence := s.link.silence + 1, backoffTimer := s.link.backoffTimer - 1 } } ∧
      exec .backoffEnd s = .next s) ∧
    (∀ sh rest, s.link.silence < 2 → s.link.state = .backoff → s.link.backoffTimer = 1 →
      s.queue = sh :: rest → sh.attempts < 16 →
      exec .backoffEnd s = .next (begins s.queue
        { s.link with silence := s.link.silence + 1, backoffTimer := 0 } s))

/-! ### The print link (06) -/

/-- A failed attempt, by a BUSY naming the head sheet in AWAITING or by the expiry of the reply timer: the
head's attempts rise by 1, and it backs off, or after its sixteenth attempt waits for the operator. That the
stopped reply timer reads 0, and that REPLY_TIMER_EXPIRY is no event where the tick would not bring it, is
the model's choice (R113, R109; log entries 8, 22). -/
def Obligations.FailedAttempt : Prop :=
  ∀ (sh : Sheet) (rest : List Sheet) (s : State),
    s.link.state = .awaiting → s.queue = sh :: rest →
    (Hunting s → exec (.busy sh.number) s = .next (failed sh rest (alive s.link) s)) ∧
    (s.link.silence < 2 → s.link.replyTimer = 1 →
      exec .replyTimerExpiry s =
        .next (failed sh rest { s.link with silence := s.link.silence + 1 } s)) ∧
    (1 < s.link.replyTimer → exec .replyTimerExpiry s = .next s)

/-- A PULSE is life: it ends DOWN, counts in TRAINING and with the third frame brings the link up, which
begins to send the head of the queue, and it zeroes the silence counter in every state (R104, R106). -/
def Obligations.PulseIsLife : Prop :=
  ∀ s : State, Hunting s →
    (s.link.state = .down →
      exec .pulse s = .next { s with link := { alive s.link with state := .training, pulses := 1 } }) ∧
    (s.link.state = .training → s.link.pulses < 2 →
      exec .pulse s = .next { s with link := { alive s.link with pulses := s.link.pulses + 1 } }) ∧
    (s.link.state = .training → s.link.pulses = 2 →
      exec .pulse s = .next (begins s.queue { alive s.link with pulses := 3 } s)) ∧
    (s.link.state ≠ .down → s.link.state ≠ .training →
      exec .pulse s = .next { s with link := alive s.link })

/-- A matching ACCEPT or REJECT in AWAITING ends the head sheet's life: it is counted, on its channel too or
by CHECK there unless that channel is OFFLINE, the sheet leaves, its cells are free, and the link begins the
next sheet or is idle. Where a claimant waits, the freed place is offered to it first; then the sheet's cells
are freed and a waiting line retried; the link goes on last. That the stopped reply timer reads 0 is the
model's choice (R100, R101, R106, R111, R112; log entry 22). -/
def Obligations.ReplyRemovesSheet : Prop :=
  (∀ (sh : Sheet) (rest : List Sheet) (reason : Byte) (s : State),
    s.link.state = .awaiting → s.queue = sh :: rest → Hunting s → s.roomWait = [] → s.cellWait = [] →
    exec (.accept sh.number) s =
      .next (begins rest { alive s.link with
          replyTimer := 0, accepted := saturated s.link.accepted 1 }
        { s.modCh sh.channel (fun c => { c with sheetsAccepted := saturated c.sheetsAccepted 1 }) with
          queue := rest, freeCells := s.freeCells + sh.cellCount }) ∧
    exec (.reject sh.number reason) s =
      .next (begins rest { alive s.link with
          replyTimer := 0, rejected := saturated s.link.rejected 1 }
        { s.modCh sh.channel (fun c => if c.state = .offline then c else { c with check := true }) with
          queue := rest, freeCells := s.freeCells + sh.cellCount })) ∧
  (∀ (sh : Sheet) (rest : List Sheet) (reason : Byte) (s : State),
    s.link.state = .awaiting → s.queue = sh :: rest → Hunting s →
    let leaves (i : Instr) (counted : State) (l : LinkCtl) : Prop :=
      ∀ t u, Offered { counted with queue := rest } t → Retried sh.cellCount t u →
        exec i s = .next (begins u.queue l u)
    leaves (.accept sh.number)
      (s.modCh sh.channel fun c => { c with sheetsAccepted := saturated c.sheetsAccepted 1 })
      { alive s.link with replyTimer := 0, accepted := saturated s.link.accepted 1 } ∧
    leaves (.reject sh.number reason)
      (s.modCh sh.channel fun c => if c.state = .offline then c else { c with check := true })
      { alive s.link with replyTimer := 0, rejected := saturated s.link.rejected 1 })

/-- A reply out of turn, or naming another sheet than the head, is counted as ignored and changes no sheet,
timer or attempts; it is life: it resets the silence counter, begins the training in DOWN and counts towards
it in TRAINING, where the third frame brings the link up (R116, R104). -/
def Obligations.IgnoredReply : Prop :=
  ∀ (number : Word) (reason : Byte) (s : State), Hunting s →
    ∀ i ∈ [Instr.accept number, .busy number, .reject number reason],
      let ignored := saturated s.link.ignoredReplies 1
      (s.link.state ≠ .down → s.link.state ≠ .training →
        (s.link.state = .awaiting → ∀ sh ∈ s.queue.head?, sh.number ≠ number) →
        exec i s = .next { s with link := { alive s.link with ignoredReplies := ignored } }) ∧
      (s.link.state = .down →
        exec i s = .next { s with link := { alive s.link with
          state := .training, pulses := 1, ignoredReplies := ignored } }) ∧
      (s.link.state = .training → s.link.pulses < 2 →
        exec i s = .next { s with link := { alive s.link with
          pulses := s.link.pulses + 1, ignoredReplies := ignored } }) ∧
      (s.link.state = .training → s.link.pulses = 2 →
        exec i s = .next (begins s.queue { alive s.link with pulses := 3, ignoredReplies := ignored } s))

/-- A frame is bad when its kind is no printer's kind, its length is not the kind's, or its CRC is wrong: it
is counted, is no life, and the receiver hunts again; a length over 1,500 makes it bad at once
(R103, R165, R166). -/
def Obligations.BadFrame : Prop :=
  (∀ (kind : Byte) (payload : List Byte) (crc : Word) (s : State),
    Hunting s → payload.length ≤ 1500 →
    (kind ∉ [(0x20 : Byte), 0x21, 0x22, 0x23] ∨ (kind = 0x20 ∧ payload.length ≠ 0) ∨
      (kind = 0x21 ∧ payload.length ≠ 2) ∨ (kind = 0x22 ∧ payload.length ≠ 2) ∨
      (kind = 0x23 ∧ payload.length ≠ 3) ∨ crc ≠ frameCrc kind payload) →
    exec (.badFrame (wire kind payload crc)) s =
      .next { s with link := { s.link with
        receiver := .hunting false, badFrames := saturated s.link.badFrames 1 } }) ∧
  (∀ (kind : Byte) (length : Word) (s : State), Hunting s → 1500 < length.toNat →
    exec (.badFrame [0x55, 0xC3, kind, hiByte length, loByte length]) s =
      .next { s with link := { s.link with
        receiver := .hunting false, badFrames := saturated s.link.badFrames 1 } })

/-- The frames of an emission: each ROW carries the sheet number, the line's y, its cell count and each
cell's x, strike count and glyph codes as the table stands; SHEET-END, once every ROW has gone, carries the
cells sent and the clip count, and the link then awaits the reply with its timer loaded (R107 to R109, R148,
R165). -/
def Obligations.RowAndEnd : Prop :=
  ∀ (sh : Sheet) (rest : List Sheet) (s : State),
    s.link.state = .sending → s.queue = sh :: rest →
    (∀ l, sh.rows[s.link.rowsSent]? = some l →
      let payload := [hiByte sh.number, loByte sh.number, hiByte (BitVec.ofNat 16 l.y),
          loByte (BitVec.ofNat 16 l.y), BitVec.ofNat 8 l.cells.length] ++
        (l.cells.map fun c =>
          [hiByte (BitVec.ofNat 16 c.x), loByte (BitVec.ofNat 16 c.x), BitVec.ofNat 8 c.strikes.length] ++
            (c.strikes.map fun g =>
              [hiByte (s.setup.glyphCodes.getD g.val 0), loByte (s.setup.glyphCodes.getD g.val 0)]).flatten
        ).flatten
      exec .row s = .next { s with
        link := { s.link with rowsSent := s.link.rowsSent + 1 }
        linkSend := wire 0x11 payload (frameCrc 0x11 payload) }) ∧
    (sh.rows.length = s.link.rowsSent →
      let sent := BitVec.ofNat 16 (sh.rows.map fun l => l.cells.length).sum
      let payload := [hiByte sh.number, loByte sh.number, hiByte sent, loByte sent,
        hiByte (BitVec.ofNat 16 sh.clipCount), loByte (BitVec.ofNat 16 sh.clipCount)]
      exec .sheetEnd s = .next { s with
        link := { s.link with state := .awaiting, replyTimer := s.link.replyTimeout }
        linkSend := wire 0x12 payload (frameCrc 0x12 payload) })

/-! ### Own cycles (07) -/

/-- The head own cycle begins when the memory side is free and no host cycle is presented, or the presented
one is held by the guard or by the write hold: it leaves the queue, the passed-over count is 0, and the
cycle stands on the memory side, a TALLY-WRITE with both bytes in odd parity. While a host cycle that
nothing holds is presented, or an own cycle is in progress, nothing begins (R129, R131 to R133). -/
def Obligations.OwnCycleStart : Prop :=
  ∀ s : State,
    (s.ownCycle = none →
      (s.presented = none ∨ 32 ≤ s.passedOver ∨
        ∃ w, s.presented = some (.write w) ∧ (s.findWindow w.addr).isSome = true ∧
          FetchWaits w.addr s) →
      (∀ ch a v rest, s.ownQueue = .tally ch a v :: rest →
        exec .ownCycleStart s = .next { s with
          ownQueue := rest, ownCycle := some (.tally ch a v), passedOver := 0
          memDrive := some (.write ⟨a, ⟨true, true⟩,
            ⟨⟨hiByte v, oddParityBit (hiByte v)⟩, ⟨loByte v, oddParityBit (loByte v)⟩⟩⟩) }) ∧
      (∀ req f rest, s.ownQueue = .fetch req f :: rest → s.placeWait = [] →
        exec .ownCycleStart s = .next { s with
          ownQueue := rest, ownCycle := some (.fetch req f), passedOver := 0
          memDrive := some (.read f.addr) })) ∧
    (s.ownCycle ≠ none → exec .ownCycleStart s = .next s) ∧
    (∀ c, s.presented = some c → Unheld c s → exec .ownCycleStart s = .next s)

/-- A free fetch place goes to the head of the place-wait list: its next listed word becomes a FETCH at the
tail of the queue and is outstanding, and the requester moves to the tail of the list while it has more.
With all twelve places taken nothing is granted (R28, R130). -/
def Obligations.FetchPlaceGrant : Prop :=
  (∀ (r : ApplyRec) (f : FetchWord) (more : List FetchWord) (rest : List Requester) (s : State),
    s.placeWait = .setup :: rest → s.setup.apply = some r → r.toFetch = f :: more →
    s.ownQueue.countP OwnEntry.isFetch < 12 →
    exec .fetchPlaceGrant s = .next { s with
      ownQueue := s.ownQueue ++ [.fetch .setup f]
      placeWait := if more = [] then rest else rest ++ [.setup]
      setup := { s.setup with
        apply := some { r with toFetch := more, outstanding := r.outstanding + 1 } } }) ∧
  (∀ (ch : ChannelId) (op : Op) (r : LineRec) (f : FetchWord) (more : List FetchWord)
      (rest : List Requester) (s : State),
    s.placeWait = .operation ch :: rest → (s.ch ch).state = .busy op → op.stage = .takingLine r →
    r.toFetch = f :: more → s.ownQueue.countP OwnEntry.isFetch < 12 →
    exec .fetchPlaceGrant s = .next { s.modCh ch (fun c =>
        { c with state := .busy { op with
          stage := .takingLine { r with toFetch := more, outstanding := r.outstanding + 1 } } }) with
      ownQueue := s.ownQueue ++ [.fetch (.operation ch) f]
      placeWait := if more = [] then rest else rest ++ [.operation ch] }) ∧
  (∀ s : State, 12 ≤ s.ownQueue.countP OwnEntry.isFetch → exec .fetchPlaceGrant s = .next s)

/-- A GO whose record lacks bytes in the shadow goes to BUSY in TAKING and gives words to the own-cycle
queue: a LOAD-TAPE its length word, a print its line-length word; with the length known, the mask words or
the page words that lack a needed byte, in ascending address, as many as there are free places, the rest
waiting for places (R24 to R28, R43 to R45, R130). -/
def Obligations.FetchesBegin : Prop :=
  ∀ (w : BusWrite) (ans : WriteAnswer) (ch : ChannelId) (s : State),
    QuietGo w ch s → (newCommand w (s.ch ch)).getLsbD 11 = false → s.placeWait = [] →
    s.ownQueue.countP OwnEntry.isFetch < 12 →
    let m := shadowHostWrite w ans s.shadow
    let lacks (a : Addr) : Prop := m.read (2 * a.toNat) = none ∨ m.read (2 * a.toNat + 1) = none
    let word (a : Addr) : TakenWord :=
      { hi := m.read (2 * a.toNat), lo := m.read (2 * a.toNat + 1), hiDamaged := false
        loDamaged := false }
    ((newCommand w (s.ch ch)).getLsbD 12 = true → lacks (s.wordAddr (.tape ch) 0) →
      exec (.loadTape w ans) s = .next { (begun w ans ch s).modCh ch (fun c =>
          { c with state := .busy ⟨.loadTape, false, 0, (newCommand w (s.ch ch)).getLsbD 13,
            .takingTape { length := none, toFetch := [], outstanding := 1
                          words := (List.range 193).map fun i => word (s.wordAddr (.tape ch) i) },
            false⟩ }) with
        ownQueue := s.ownQueue ++ [.fetch (.operation ch) ⟨s.wordAddr (.tape ch) 0, .tape 0⟩] }) ∧
    ((newCommand w (s.ch ch)).getLsbD 12 = false → (newCommand w (s.ch ch)).getLsbD 7 = false →
      (newCommand w (s.ch ch)).getLsbD 6 = false → (s.ch ch).paper.isSome = true →
      lacks (s.wordAddr (.control ch) 2) →
      exec (.printThenSpace w ans) s = .next { (begun w ans ch s).modCh ch (fun c =>
          { c with state := .busy (opOf (newCommand w (s.ch ch)) .printSpace
            ((newCommand w (s.ch ch)).toNat % 4)
            (.takingLine { length := none, lengthDamaged := false, toFetch := [], outstanding := 1
                           lengthWord := word (s.wordAddr (.control ch) 2)
                           words := (List.range 80).map fun i => word (s.wordAddr (.pages ch)
                             ((if (newCommand w (s.ch ch)).getLsbD 14 then 80 else 0) + i)) })) }) with
        ownQueue := s.ownQueue ++
          [.fetch (.operation ch) ⟨s.wordAddr (.control ch) 2, .lineLength⟩] }) ∧
    (∀ len : Word, (newCommand w (s.ch ch)).getLsbD 12 = true → Holds m (s.wordAddr (.tape ch) 0) len →
      12 ≤ len.toNat → len.toNat ≤ 192 →
      let words := (List.range 193).map fun i => word (s.wordAddr (.tape ch) i)
      let ws := lackingMasks words ch len.toNat s
      ws ≠ [] →
      exec (.loadTape w ans) s = .next (gives (.operation ch) ws ((begun w ans ch s).modCh ch fun c =>
        { c with state := .busy ⟨.loadTape, false, 0, (newCommand w (s.ch ch)).getLsbD 13,
          .takingTape { length := some len.toNat, toFetch := ws.drop (grantedOf ws s)
                        outstanding := grantedOf ws s, words := words }, false⟩ }))) ∧
    (∀ v : Word, (newCommand w (s.ch ch)).getLsbD 12 = false → (newCommand w (s.ch ch)).getLsbD 7 = false →
      (s.ch ch).paper.isSome = true → Holds m (s.wordAddr (.control ch) 2) v →
      let vp := (newCommand w (s.ch ch)).getLsbD 14
      let words := (List.range 80).map fun i =>
        word (s.wordAddr (.pages ch) ((if vp then 80 else 0) + i))
      let ws := lackingPages words ch vp (min v.toNat 160) s
      let waits (kind : OpKind) (count : Nat) : State :=
        gives (.operation ch) ws ((begun w ans ch s).modCh ch fun c =>
          { c with state := .busy (opOf (newCommand w (s.ch ch)) kind count
            (.takingLine { length := some (min v.toNat 160), lengthDamaged := false
                           lengthWord := word (s.wordAddr (.control ch) 2)
                           words := words, toFetch := ws.drop (grantedOf ws s)
                           outstanding := grantedOf ws s })) })
      ws ≠ [] →
      ((newCommand w (s.ch ch)).getLsbD 6 = false →
        exec (.printThenSpace w ans) s =
          .next (waits .printSpace ((newCommand w (s.ch ch)).toNat % 4))) ∧
      ((newCommand w (s.ch ch)).getLsbD 6 = true → 1 ≤ (newCommand w (s.ch ch)).toNat % 16 →
        (newCommand w (s.ch ch)).toNat % 16 ≤ 12 →
        exec (.printThenSkip w ans) s =
          .next (waits .printSkip ((newCommand w (s.ch ch)).toNat % 16))))

/-- The end of an own cycle. A FETCH's good bytes become valid in the shadow of a window's word and its bad
ones invalid. The answer fills or damages the bytes that its line or tape record needs and lacks, and an
abandoned operation's is discarded. A line length fixes the line, or damaged makes it empty; a tape length
fixes the tape, or bad refuses it; either lists the words that are lacking. The answer that ends TAKING hands
the line on, placed or refused under CHECK, or installs the tape with a damaged word's mask 0. A TALLY-WRITE
that memory accepts leaves its value valid in the shadow, one it does not answer leaves the word invalid
(R26, R27, R29, R31, R35, R44 to R47, R126, R131). -/
def Obligations.OwnCycleEnds : Prop :=
  (∀ (ch : ChannelId) (f : FetchWord) (ans : ReadAnswer) (s : State),
    s.ownCycle = some (.fetch (.abandoned ch) f) →
    ((s.findWindow f.addr).isSome = true →
      ∃ mem, FetchedShadow f.addr ans s mem ∧ exec (.fetchAnswer ans) s = .next (fetchEnded s mem)) ∧
    (s.findWindow f.addr = none → exec (.fetchAnswer ans) s = .next { s with ownCycle := none })) ∧
  (∀ (ch : ChannelId) (f : FetchWord) (op : Op) (r : LineRec) (j n : Nat) (ans : ReadAnswer) (s : State),
    Fetching ch f (.page j) op s → op.stage = .takingLine r → r.length = some n →
    ∃ mem, FetchedShadow f.addr ans s mem ∧
      let words := r.words.set j (filledPage r n j ans)
      let t := (fetchEnded s mem).modCh ch fun c =>
        { c with damaged := saturated c.damaged (pageDamage r n j ans) }
      ((r.toFetch = [] ∧ 2 ≤ r.outstanding) ∨ (r.toFetch ≠ [] ∧ Requester.operation ch ∈ s.placeWait) →
        exec (.fetchAnswer ans) s = .next (t.modCh ch fun c =>
          { c with state := .busy { op with
            stage := .takingLine { r with outstanding := r.outstanding - 1, words := words } } })) ∧
      (r.toFetch = [] → r.outstanding = 1 →
        let entry := takenEntry s.setup.translation words
        ((s.ch ch).policy ≠ .check ∨ (entryBad entry n = 0 ∧ r.lengthDamaged = false) →
          ∀ p, LineEnds ch op p entry n s →
            exec (.fetchAnswer ans) s = .next (lineEnded ch op p entry n t)) ∧
        ((s.ch ch).policy = .check → op.linePlaced = false →
          0 < entryBad entry n ∨ r.lengthDamaged = true →
          exec (.fetchAnswer ans) s = .next (lineRefused ch op (entryBad entry n) t)))) ∧
  (∀ (ch : ChannelId) (f : FetchWord) (op : Op) (r : LineRec) (ans : ReadAnswer) (s : State),
    Fetching ch f .lineLength op s → op.stage = .takingLine r →
    ∃ mem, FetchedShadow f.addr ans s mem ∧
      let t := filled r.lengthWord true true ans
      (∀ hi lo, t.hi = some hi → t.lo = some lo →
        let n := min (hi ++ lo : Word).toNat 160
        let ws := lackingPages r.words ch op.vp n s
        ws ≠ [] → s.placeWait = [] → r.outstanding = 1 →
        exec (.fetchAnswer ans) s =
          .next (gives (.operation ch) ws ((fetchEnded s mem).modCh ch fun c =>
            { c with state := .busy { op with
              stage := .takingLine { r with length := some n, lengthWord := t
                                            toFetch := ws.drop (grantedOf ws s)
                                            outstanding := grantedOf ws s } } }))) ∧
      (t.hi = none ∨ t.lo = none → r.outstanding = 1 →
        let u := (fetchEnded s mem).modCh ch fun c =>
          { c with damaged := saturated c.damaged 1, unprintable := saturated c.unprintable 1 }
        ((s.ch ch).policy ≠ .check → ∀ p, LineEnds ch op p (fun _ => .blank) 0 s →
          exec (.fetchAnswer ans) s = .next (lineEnded ch op p (fun _ => .blank) 0 u)) ∧
        ((s.ch ch).policy = .check → op.linePlaced = false →
          exec (.fetchAnswer ans) s = .next (lineRefused ch op 0 u)))) ∧
  (∀ (ch : ChannelId) (f : FetchWord) (op : Op) (r : TapeRec) (ans : ReadAnswer) (s : State),
    Fetching ch f (.tape 0) op s → op.kind = .loadTape → op.stage = .takingTape r →
    ∃ mem, FetchedShadow f.addr ans s mem ∧
      let t := filled (r.words.getD 0 lackingWord) true true ans
      (t.hi = none ∨ t.lo = none ∨
          (∃ hi lo, t.hi = some hi ∧ t.lo = some lo ∧
            ((hi ++ lo : Word).toNat < 12 ∨ 192 < (hi ++ lo : Word).toNat)) →
        (s.ch ch).pendStop = false → (s.ch ch).pendEject = false →
        exec (.fetchAnswer ans) s =
          .next ((fetchEnded s mem).modCh ch fun c => finished op.ie { c with reject := true })) ∧
      (∀ hi lo, t.hi = some hi → t.lo = some lo → 12 ≤ (hi ++ lo : Word).toNat →
        (hi ++ lo : Word).toNat ≤ 192 →
        let words := r.words.set 0 t
        let ws := lackingMasks words ch (hi ++ lo : Word).toNat s
        ws ≠ [] → s.placeWait = [] → r.outstanding = 1 →
        exec (.fetchAnswer ans) s =
          .next (gives (.operation ch) ws ((fetchEnded s mem).modCh ch fun c =>
            { c with state := .busy { op with
              stage := .takingTape { length := some (hi ++ lo : Word).toNat, words := words
                                     toFetch := ws.drop (grantedOf ws s)
                                     outstanding := grantedOf ws s } } })))) ∧
  (∀ (ch : ChannelId) (f : FetchWord) (op : Op) (r : TapeRec) (i n : Nat) (ans : ReadAnswer) (s : State),
    Fetching ch f (.tape (i + 1)) op s → op.kind = .loadTape → op.stage = .takingTape r →
    r.length = some n →
    ∃ mem, FetchedShadow f.addr ans s mem ∧
      let words := r.words.set (i + 1) (filled (r.words.getD (i + 1) lackingWord) true true ans)
      ((r.toFetch = [] ∧ 2 ≤ r.outstanding) ∨ (r.toFetch ≠ [] ∧ Requester.operation ch ∈ s.placeWait) →
        exec (.fetchAnswer ans) s = .next ((fetchEnded s mem).modCh ch fun c =>
          { c with state := .busy { op with
            stage := .takingTape { r with outstanding := r.outstanding - 1, words := words } } })) ∧
      (r.toFetch = [] → r.outstanding = 1 →
        (∀ p ∈ (s.ch ch).paper, p.pos = 0 ∧ p.form.cellCount = 0) →
        (s.ch ch).pendStop = false → (s.ch ch).pendEject = false →
        exec (.fetchAnswer ans) s = .next ((fetchEnded s mem).modCh ch fun c =>
          finished op.ie { c with
            overflow := false, ch9 := false
            paper := some ⟨⟨(List.range n).map fun l =>
              match (words.getD (l + 1) lackingWord).hi, (words.getD (l + 1) lackingWord).lo with
              | some hi, some lo =>
                if (words.getD (l + 1) lackingWord).hiDamaged || (words.getD (l + 1) lackingWord).loDamaged
                then 0 else (hi ++ lo : Word).extractLsb' 0 12
              | _, _ => 0⟩, 0, ⟨n, 0, []⟩⟩ }))) ∧
  (∀ (ch : ChannelId) (a : Addr) (v : Word) (s : State), s.ownCycle = some (.tally ch a v) →
    ((s.findWindow a).isSome = true →
      (∃ mem : Memory, exec (.tallyWrite .accepted) s = .next (fetchEnded s mem) ∧
        ∀ b, mem.read b =
          if b = 2 * a.toNat then some (hiByte v) else if b = 2 * a.toNat + 1 then some (loByte v)
          else s.shadow.read b) ∧
      (∃ mem : Memory, exec (.tallyWrite .noResponse) s = .next (fetchEnded s mem) ∧
        ∀ b, mem.read b =
          if b = 2 * a.toNat ∨ b = 2 * a.toNat + 1 then none else s.shadow.read b)) ∧
    (s.findWindow a = none → ∀ ans, exec (.tallyWrite ans) s = .next { s with ownCycle := none }))

/-! ### Setup records (08) -/

/-- A write to the apply word that finds word 0 or 1 of the record missing in the shadow leaves the result
PENDING and gives those words to the own-cycle queue; a record whose word 0 names no kind gives BAD-KIND;
a write while an apply record exists starts nothing. The answer to one of the record's fetches fills or
damages its word; one that settles words 0 and 1 lists the payload words that are lacking; the last one
applies the record: a word 0 that is damaged gives BAD-KIND, a LINK record's timeout is set, or gives
BAD-VALUE when it is damaged or out of range (R126, R138, R139, R142, R146). -/
def Obligations.PendingAndBadKind : Prop :=
  (∀ (w : BusWrite) (ans : WriteAnswer) (s : State), ApplyWrite w s →
    let m := shadowHostWrite w ans s.shadow
    let word (i : Nat) : TakenWord :=
      { hi := m.read (2 * (s.wordAddr .setup i).toNat), lo := m.read (2 * (s.wordAddr .setup i).toNat + 1)
        hiDamaged := false, loDamaged := false }
    let lacking := [0, 1].filter fun i => (word i).hi.isNone || (word i).lo.isNone
    lacking ≠ [] → s.placeWait = [] → s.ownQueue.countP OwnEntry.isFetch ≤ 10 →
    exec (.pending w ans) s = .next { written w ans s with
      ownQueue := s.ownQueue ++
        lacking.map fun i => .fetch .setup ⟨s.wordAddr .setup i, .record i⟩
      setup := { s.setup with
        answersPresent := false, result := .pending
        apply := some { words := (List.range 18).map word, toFetch := []
                        outstanding := lacking.length } } }) ∧
  (∀ (w : BusWrite) (ans : WriteAnswer) (vals : Nat → Word) (s : State), ApplyWrite w s →
    RecordHeld w ans vals [0, 1] s → ((vals 0).toNat = 0 ∨ 7 < (vals 0).toNat) →
    exec (.badKind w ans) s = .next (applied w ans .badKind s)) ∧
  (∀ (w : BusWrite) (ans : WriteAnswer) (r : ApplyRec) (s : State),
    Passes (.write w) s → s.lookup w.addr = some (.setup, 18) → s.setup.apply = some r →
    exec (.pending w ans) s =
      .next { written w ans s with setup := { s.setup with answersPresent := false } }) ∧
  (∀ (i : Nat) (f : FetchWord) (r : ApplyRec) (ans : ReadAnswer) (s : State), RecordFetching i f r s →
    ∃ mem, FetchedShadow f.addr ans s mem ∧
      let t := filled (r.words.getD i lackingWord) true true ans
      (2 ≤ i →
        (r.toFetch = [] ∧ 2 ≤ r.outstanding) ∨ (r.toFetch ≠ [] ∧ Requester.setup ∈ s.placeWait) →
        exec (.fetchAnswer ans) s = .next { fetchEnded s mem with
          setup := { s.setup with
            result := .pending
            apply := some { r with outstanding := r.outstanding - 1, words := r.words.set i t } } }) ∧
      (i < 2 → r.outstanding = 1 → s.placeWait = [] →
        ∀ hi lo, let words := r.words.set i t
          let ws := lackingRecord words (payloadOf (hi ++ lo : Word).toNat) s
          (words.getD 0 lackingWord).hi = some hi → (words.getD 0 lackingWord).lo = some lo →
          ((words.getD 1 lackingWord).hi.isSome = true ∧ (words.getD 1 lackingWord).lo.isSome = true) ∨
            (words.getD 1 lackingWord).hiDamaged = true ∨ (words.getD 1 lackingWord).loDamaged = true →
          ws ≠ [] →
          exec (.fetchAnswer ans) s = .next (gives .setup ws { fetchEnded s mem with
            setup := { s.setup with
              result := .pending
              apply := some { words := words, toFetch := ws.drop (grantedOf ws s)
                              outstanding := grantedOf ws s } } })) ∧
      (i = 0 → r.toFetch = [] → r.outstanding = 1 → t.hi = none ∨ t.lo = none →
        exec (.fetchAnswer ans) s = .next (appliedLate .badKind (fetchEnded s mem))) ∧
      (i = 2 → r.toFetch = [] → r.outstanding = 1 → 2 < r.words.length →
        r.words.getD 0 lackingWord = ⟨some 0, some 5, false, false⟩ →
        (r.words.getD 2 lackingWord).hiDamaged = false → (r.words.getD 2 lackingWord).loDamaged = false →
        (∀ hi lo, t.hi = some hi → t.lo = some lo →
          (5 ≤ (hi ++ lo : Word).toNat → (hi ++ lo : Word).toNat ≤ 100 →
            exec (.fetchAnswer ans) s = .next { appliedLate .done (fetchEnded s mem) with
              link := { s.link with replyTimeout := (hi ++ lo : Word).toNat } }) ∧
          ((hi ++ lo : Word).toNat < 5 ∨ 100 < (hi ++ lo : Word).toNat →
            exec (.fetchAnswer ans) s = .next (appliedLate .badValue (fetchEnded s mem)))) ∧
        (t.hi = none ∨ t.lo = none →
          exec (.fetchAnswer ans) s = .next (appliedLate .badValue (fetchEnded s mem)))))

/-- A CHANNEL record: BUSY for a channel that is BUSY or HALTED, OVERLAP where a new window shares an
address, BAD-VALUE for a target above 3 or a base, GO mode, policy, glyph or shift out of its range;
otherwise the channel's windows are replaced, their shadow bytes are invalid, the settings are taken, the
command values cleared, and an OFFLINE channel is IDLE (R23, R123, R142 to R144, R163). -/
def Obligations.ChannelRecordApplied : Prop :=
  ∀ (w : BusWrite) (ans : WriteAnswer) (vals : Nat → Word) (x : ChannelRecord) (s : State),
    ApplyWrite w s → RecordHeld w ans vals (List.range 12) s →
    (ChannelWords vals x →
      (((∃ op, (s.ch x.target).state = .busy op) ∨ (s.ch x.target).state = .halted) →
        exec (.channel w ans) s = .next (applied w ans .busy s)) ∧
      ((s.ch x.target).state = .offline ∨ (s.ch x.target).state = .idle ∨
          (s.ch x.target).state = .stopped →
        (Clashes x s → exec (.channel w ans) s = .next (applied w ans .overlap s)) ∧
        (¬ Clashes x s →
          let new : List Window :=
            [⟨x.control, .control x.target⟩, ⟨x.pages, .pages x.target⟩, ⟨x.tape, .tape x.target⟩]
          ∃ m : Memory, exec (.channel w ans) s =
              .next { (applied w ans .done s).modCh x.target (boundBy x) with
                windows := (s.windows.filter fun v => decide (v.role.channel ≠ some x.target)) ++ new
                shadow := m } ∧
            ∀ b, (((∃ v ∈ new, InWindow v b) ∨
                  ∃ v ∈ s.windows, v.role.channel = some x.target ∧ InWindow v b) →
                m.read b = none) ∧
              ((¬ (∃ v ∈ new, InWindow v b)) →
                (¬ ∃ v ∈ s.windows, v.role.channel = some x.target ∧ InWindow v b) →
                m.read b = (shadowHostWrite w ans s.shadow).read b)))) ∧
    (vals 0 = 1 →
      (3 < (vals 1).toNat ∨ 15 < (vals 2).toNat ∨ 1048572 < (vals 2).toNat * 65536 + (vals 3).toNat ∨
        15 < (vals 4).toNat ∨ 1048416 < (vals 4).toNat * 65536 + (vals 5).toNat ∨
        15 < (vals 6).toNat ∨ 1048383 < (vals 6).toNat * 65536 + (vals 7).toNat ∨
        2 < (vals 8).toNat ∨ 2 < (vals 9).toNat ∨ 63 < (vals 10).toNat ∨ (vals 11).toInt < -32 ∨
        32 < (vals 11).toInt) →
      exec (.channel w ans) s = .next (applied w ans .badValue s))

/-- A LAYOUT record replaces the layout, reloads the run-out counter and drops a due run-out action, in any
channel state; from 2-up to 1-up with a pending sheet it first releases the sheet under the old layout, or
with the queue full gives BUSY and changes nothing; a field out of its range gives BAD-VALUE (R82 to R84,
R145). -/
def Obligations.LayoutRecordApplied : Prop :=
  ∀ (w : BusWrite) (ans : WriteAnswer) (vals : Nat → Word) (s : State),
    ApplyWrite w s → RecordHeld w ans vals (List.range 13) s →
    (∀ ch l, LayoutWords vals ch l →
      ((s.ch ch).layout.geo.twoUp = false ∨ l.geo.twoUp = true ∨ (s.ch ch).pendSheet = none →
        exec (.layout w ans) s = .next (layoutSet ch l (applied w ans .done s))) ∧
      (∀ f0, (s.ch ch).layout.geo.twoUp = true → l.geo.twoUp = false → (s.ch ch).pendSheet = some f0 →
        (s.queue.length < 8 → s.cellWait = [] →
          exec (.layout w ans) s =
            .next (layoutSet ch l (entered ch f0 none
              ((applied w ans .done s).modCh ch fun c => { c with pendSheet := none })))) ∧
        (8 ≤ s.queue.length → exec (.layout w ans) s = .next (applied w ans .busy s)))) ∧
    (vals 0 = 2 →
      (3 < (vals 1).toNat ∨ (vals 2).toNat = 0 ∨ 255 < (vals 2).toNat ∨ (vals 3).toNat = 0 ∨
        255 < (vals 3).toNat ∨ (vals 4).toNat = 0 ∨ 8192 < (vals 4).toNat ∨ (vals 5).toNat = 0 ∨
        2 < (vals 5).toNat ∨ (vals 10).toNat = 0 ∨ (vals 11).toNat = 0 ∨ 255 < (vals 12).toNat) →
      exec (.layout w ans) s = .next (applied w ans .badValue s))

/-- The records of the device tables and the link. An XLATE record replaces sixteen translation entries and
no other, all or none; a GLYPH record replaces sixteen glyph codes and no other; a LINK record sets the
reply timeout; a value out of its range gives BAD-VALUE and changes nothing (R146 to R148). -/
def Obligations.TableRecords : Prop :=
  ∀ (w : BusWrite) (ans : WriteAnswer) (vals : Nat → Word) (s : State),
    ApplyWrite w s → TablesOk s →
    (RecordHeld w ans vals (List.range 18) s → vals 0 = 3 →
      ((vals 1).toNat ≤ 240 →
        (∀ j, j < 16 → (vals (j + 2)).toNat ≤ 63 ∨ vals (j + 2) = 254 ∨ vals (j + 2) = 255) →
        ∃ table : List TransEntry,
          exec (.xlate w ans) s = .next { applied w ans .done s with
            setup := { (applied w ans .done s).setup with translation := table } } ∧
          table.length = 256 ∧
          ∀ i, i < 256 →
            if (vals 1).toNat ≤ i ∧ i < (vals 1).toNat + 16 then
              let v := vals (i - (vals 1).toNat + 2)
              (v = 254 → table.getD i .unprintable = .blank) ∧
              (v = 255 → table.getD i .blank = .unprintable) ∧
              (∀ g : Glyph, v.toNat = g.val → table.getD i .blank = .glyph g)
            else table.getD i .blank = s.setup.translation.getD i .blank) ∧
      (240 < (vals 1).toNat ∨ (∃ j, j < 16 ∧ 63 < (vals (j + 2)).toNat ∧ vals (j + 2) ≠ 254 ∧
          vals (j + 2) ≠ 255) →
        exec (.xlate w ans) s = .next (applied w ans .badValue s))) ∧
    (RecordHeld w ans vals (List.range 18) s → vals 0 = 4 →
      ((vals 1).toNat ≤ 48 →
        ∃ table : List Word,
          exec (.glyph w ans) s = .next { applied w ans .done s with
            setup := { (applied w ans .done s).setup with glyphCodes := table } } ∧
          table.length = 64 ∧
          ∀ i, i < 64 → table.getD i 0 =
            if (vals 1).toNat ≤ i ∧ i < (vals 1).toNat + 16 then vals (i - (vals 1).toNat + 2)
            else s.setup.glyphCodes.getD i 0) ∧
      (48 < (vals 1).toNat → exec (.glyph w ans) s = .next (applied w ans .badValue s))) ∧
    (RecordHeld w ans vals [0, 1, 2] s → vals 0 = 5 →
      (5 ≤ (vals 2).toNat → (vals 2).toNat ≤ 100 →
        exec (.link w ans) s = .next { applied w ans .done s with
          link := { s.link with replyTimeout := (vals 2).toNat } }) ∧
      ((vals 2).toNat < 5 ∨ 100 < (vals 2).toNat →
        exec (.link w ans) s = .next (applied w ans .badValue s)))

/-- A DISABLE record: nothing for an OFFLINE channel; BUSY for a BUSY one, and where a sheet would enter a
full queue; otherwise the open form, when it holds cells, and a pending sheet enter the queue, tape and
position are gone, flags, marks, request and pending actions are cleared, the windows go with their shadow,
and the channel is OFFLINE (R23, R41, R79, R123, R149). -/
def Obligations.DisableRecord : Prop :=
  ∀ (w : BusWrite) (ans : WriteAnswer) (vals : Nat → Word) (ch : ChannelId) (s : State),
    ApplyWrite w s → RecordHeld w ans vals [0, 1] s → vals 0 = 6 →
    (3 < (vals 1).toNat → exec (.disable w ans) s = .next (applied w ans .badValue s)) ∧
    ((vals 1).toNat = ch.toNat →
      ((s.ch ch).state = .offline → exec (.disable w ans) s = .next (applied w ans .done s)) ∧
      (∀ op, (s.ch ch).state = .busy op → exec (.disable w ans) s = .next (applied w ans .busy s)) ∧
      ((s.ch ch).state = .idle ∨ (s.ch ch).state = .stopped ∨ (s.ch ch).state = .halted →
        (0 < (s.ch ch).openCells ∨ (s.ch ch).pendSheet.isSome = true → 8 ≤ s.queue.length →
          exec (.disable w ans) s = .next (applied w ans .busy s)) ∧
        ((s.queue.length < 8 ∨ ((s.ch ch).openCells = 0 ∧ (s.ch ch).pendSheet = none)) →
          s.cellWait = [] →
          ((s.ch ch).pendSheet.isSome = true → (s.ch ch).layout.geo.twoUp = true) →
          ∃ m : Memory, exec (.disable w ans) s =
              .next { (disposed ch (s.ch ch) (applied w ans .done s)).modCh ch (fun c =>
                    { c with state := .offline, runOutDue := false, request := false, done := false
                             reject := false, check := false, formStop := false, pendStop := false
                             pendEject := false, overflow := false, ch9 := false }) with
                windows := s.windows.filter fun v => decide (v.role.channel ≠ some ch)
                roomWait := s.roomWait.filter fun x => decide (x ≠ .runOut ch)
                shadow := m } ∧
            ∀ b, ((∃ v ∈ s.windows, v.role.channel = some ch ∧ InWindow v b) → m.read b = none) ∧
              ((¬ ∃ v ∈ s.windows, v.role.channel = some ch ∧ InWindow v b) →
                m.read b = (shadowHostWrite w ans s.shadow).read b))))

/-- A QUERY record takes the counters of its group into the answer words and makes them present; a target
above 4 gives BAD-VALUE (R150, R164). -/
def Obligations.QueryRecord : Prop :=
  ∀ (w : BusWrite) (ans : WriteAnswer) (vals : Nat → Word) (s : State),
    ApplyWrite w s → RecordHeld w ans vals [0, 1] s → vals 0 = 7 →
    (∀ ch : ChannelId, (vals 1).toNat = ch.toNat →
      exec (.query w ans) s = .next { applied w ans .done s with
        setup := { (applied w ans .done s).setup with
          answersPresent := true
          answers := [BitVec.ofNat 16 (s.ch ch).unprintable, BitVec.ofNat 16 (s.ch ch).damaged,
            BitVec.ofNat 16 (s.ch ch).shiftLost,
            (match (s.ch ch).lastDropped with
              | none => 0
              | some col => BitVec.ofInt 16 col),
            BitVec.ofNat 16 (s.ch ch).droppedStrikes, BitVec.ofNat 16 (s.ch ch).clipped,
            BitVec.ofNat 16 (s.ch ch).sheetsAccepted, BitVec.ofNat 16 (s.ch ch).forcedBreaks] } }) ∧
    ((vals 1).toNat = 4 →
      exec (.query w ans) s = .next { applied w ans .done s with
        setup := { (applied w ans .done s).setup with
          answersPresent := true
          answers := [BitVec.ofNat 16 s.link.accepted, BitVec.ofNat 16 s.link.rejected,
            BitVec.ofNat 16 s.link.badFrames, BitVec.ofNat 16 s.link.ignoredReplies,
            BitVec.ofNat 16 s.link.losses, BitVec.ofNat 16 s.freeCells,
            BitVec.ofNat 16 s.queue.length, 0] } }) ∧
    (4 < (vals 1).toNat → exec (.query w ans) s = .next (applied w ans .badValue s))
end

