-- ==== Sys2Proof/Laws/State.lean ====
section
/-! SUPPORT. What each update of the state leaves alone and what it sets: one small lemma per field, so
that no later proof unfolds a record update. -/

namespace Sys2Proof.Machine

/-! ### Channels by number -/

@[simp] theorem Channels.set_set (cs : Channels) (i : ChannelId) (c d : Channel) :
    (cs.set i c).set i d = cs.set i d := by cases i <;> rfl

@[simp] theorem State.ch_setCh_same (s : State) (i : ChannelId) (c : Channel) :
    (s.setCh i c).ch i = c := by cases i <;> rfl

theorem State.ch_setCh_other (s : State) {i j : ChannelId} (c : Channel) (h : j ≠ i) :
    (s.setCh i c).ch j = s.ch j := by cases i <;> cases j <;> first | rfl | exact absurd rfl h

theorem State.ch_setCh (s : State) (i j : ChannelId) (c : Channel) :
    (s.setCh i c).ch j = if j = i then c else s.ch j := by
  by_cases h : j = i
  · subst h; simp
  · simp [h, State.ch_setCh_other]

/-- A channel of a state is read from the channels alone. -/
theorem State.ch_congr {s t : State} (h : s.chans = t.chans) (i : ChannelId) : s.ch i = t.ch i := by
  cases i <;> simp [State.ch, h]

theorem State.setCh_ch_self (s : State) (i : ChannelId) : s.setCh i (s.ch i) = s := by
  cases i <;> rfl

@[simp] theorem State.setCh_setCh (s : State) (i : ChannelId) (c d : Channel) :
    (s.setCh i c).setCh i d = s.setCh i d := by cases i <;> rfl

@[simp] theorem State.ch_modCh_same (s : State) (i : ChannelId) (f : Channel → Channel) :
    (s.modCh i f).ch i = f (s.ch i) := by simp [State.modCh]

theorem State.ch_modCh_other (s : State) {i j : ChannelId} (f : Channel → Channel) (h : j ≠ i) :
    (s.modCh i f).ch j = s.ch j := by simp [State.modCh, State.ch_setCh_other s _ h]

@[simp] theorem State.modCh_modCh (s : State) (i : ChannelId) (f g : Channel → Channel) :
    (s.modCh i f).modCh i g = s.modCh i (fun c => g (f c)) := by simp [State.modCh]

/-! ### One channel replaced -/

@[simp] theorem State.setCh_windows (s : State) (i : ChannelId) (c : Channel) :
    (s.setCh i c).windows = s.windows := rfl

@[simp] theorem State.setCh_shadow (s : State) (i : ChannelId) (c : Channel) :
    (s.setCh i c).shadow = s.shadow := rfl

@[simp] theorem State.setCh_ownQueue (s : State) (i : ChannelId) (c : Channel) :
    (s.setCh i c).ownQueue = s.ownQueue := rfl

@[simp] theorem State.setCh_ownCycle (s : State) (i : ChannelId) (c : Channel) :
    (s.setCh i c).ownCycle = s.ownCycle := rfl

@[simp] theorem State.setCh_placeWait (s : State) (i : ChannelId) (c : Channel) :
    (s.setCh i c).placeWait = s.placeWait := rfl

@[simp] theorem State.setCh_passedOver (s : State) (i : ChannelId) (c : Channel) :
    (s.setCh i c).passedOver = s.passedOver := rfl

@[simp] theorem State.setCh_presented (s : State) (i : ChannelId) (c : Channel) :
    (s.setCh i c).presented = s.presented := rfl

@[simp] theorem State.setCh_hostReply (s : State) (i : ChannelId) (c : Channel) :
    (s.setCh i c).hostReply = s.hostReply := rfl

@[simp] theorem State.setCh_memDrive (s : State) (i : ChannelId) (c : Channel) :
    (s.setCh i c).memDrive = s.memDrive := rfl

@[simp] theorem State.setCh_freeCells (s : State) (i : ChannelId) (c : Channel) :
    (s.setCh i c).freeCells = s.freeCells := rfl

@[simp] theorem State.setCh_cellWait (s : State) (i : ChannelId) (c : Channel) :
    (s.setCh i c).cellWait = s.cellWait := rfl

@[simp] theorem State.setCh_queue (s : State) (i : ChannelId) (c : Channel) :
    (s.setCh i c).queue = s.queue := rfl

@[simp] theorem State.setCh_sheetCounter (s : State) (i : ChannelId) (c : Channel) :
    (s.setCh i c).sheetCounter = s.sheetCounter := rfl

@[simp] theorem State.setCh_roomWait (s : State) (i : ChannelId) (c : Channel) :
    (s.setCh i c).roomWait = s.roomWait := rfl

@[simp] theorem State.setCh_link (s : State) (i : ChannelId) (c : Channel) :
    (s.setCh i c).link = s.link := rfl

@[simp] theorem State.setCh_linkSend (s : State) (i : ChannelId) (c : Channel) :
    (s.setCh i c).linkSend = s.linkSend := rfl

@[simp] theorem State.setCh_setup (s : State) (i : ChannelId) (c : Channel) :
    (s.setCh i c).setup = s.setup := rfl

@[simp] theorem State.setCh_panel (s : State) (i : ChannelId) (c : Channel) :
    (s.setCh i c).panel = s.panel := rfl

@[simp] theorem State.setCh_pending (s : State) (i : ChannelId) (c : Channel) :
    (s.setCh i c).pending = s.pending := rfl

/-! ### One channel changed -/

@[simp] theorem State.modCh_windows (s : State) (i : ChannelId) (f : Channel → Channel) :
    (s.modCh i f).windows = s.windows := rfl

@[simp] theorem State.modCh_shadow (s : State) (i : ChannelId) (f : Channel → Channel) :
    (s.modCh i f).shadow = s.shadow := rfl

@[simp] theorem State.modCh_ownQueue (s : State) (i : ChannelId) (f : Channel → Channel) :
    (s.modCh i f).ownQueue = s.ownQueue := rfl

@[simp] theorem State.modCh_ownCycle (s : State) (i : ChannelId) (f : Channel → Channel) :
    (s.modCh i f).ownCycle = s.ownCycle := rfl

@[simp] theorem State.modCh_placeWait (s : State) (i : ChannelId) (f : Channel → Channel) :
    (s.modCh i f).placeWait = s.placeWait := rfl

@[simp] theorem State.modCh_passedOver (s : State) (i : ChannelId) (f : Channel → Channel) :
    (s.modCh i f).passedOver = s.passedOver := rfl

@[simp] theorem State.modCh_presented (s : State) (i : ChannelId) (f : Channel → Channel) :
    (s.modCh i f).presented = s.presented := rfl

@[simp] theorem State.modCh_hostReply (s : State) (i : ChannelId) (f : Channel → Channel) :
    (s.modCh i f).hostReply = s.hostReply := rfl

@[simp] theorem State.modCh_memDrive (s : State) (i : ChannelId) (f : Channel → Channel) :
    (s.modCh i f).memDrive = s.memDrive := rfl

@[simp] theorem State.modCh_freeCells (s : State) (i : ChannelId) (f : Channel → Channel) :
    (s.modCh i f).freeCells = s.freeCells := rfl

@[simp] theorem State.modCh_cellWait (s : State) (i : ChannelId) (f : Channel → Channel) :
    (s.modCh i f).cellWait = s.cellWait := rfl

@[simp] theorem State.modCh_queue (s : State) (i : ChannelId) (f : Channel → Channel) :
    (s.modCh i f).queue = s.queue := rfl

@[simp] theorem State.modCh_sheetCounter (s : State) (i : ChannelId) (f : Channel → Channel) :
    (s.modCh i f).sheetCounter = s.sheetCounter := rfl

@[simp] theorem State.modCh_roomWait (s : State) (i : ChannelId) (f : Channel → Channel) :
    (s.modCh i f).roomWait = s.roomWait := rfl

@[simp] theorem State.modCh_link (s : State) (i : ChannelId) (f : Channel → Channel) :
    (s.modCh i f).link = s.link := rfl

@[simp] theorem State.modCh_linkSend (s : State) (i : ChannelId) (f : Channel → Channel) :
    (s.modCh i f).linkSend = s.linkSend := rfl

@[simp] theorem State.modCh_setup (s : State) (i : ChannelId) (f : Channel → Channel) :
    (s.modCh i f).setup = s.setup := rfl

@[simp] theorem State.modCh_panel (s : State) (i : ChannelId) (f : Channel → Channel) :
    (s.modCh i f).panel = s.panel := rfl

@[simp] theorem State.modCh_pending (s : State) (i : ChannelId) (f : Channel → Channel) :
    (s.modCh i f).pending = s.pending := rfl

/-! ### A stage replaced -/

@[simp] theorem State.setStage_windows (s : State) (i : ChannelId) (st : Stage) :
    (s.setStage i st).windows = s.windows := rfl

@[simp] theorem State.setStage_shadow (s : State) (i : ChannelId) (st : Stage) :
    (s.setStage i st).shadow = s.shadow := rfl

@[simp] theorem State.setStage_ownQueue (s : State) (i : ChannelId) (st : Stage) :
    (s.setStage i st).ownQueue = s.ownQueue := rfl

@[simp] theorem State.setStage_ownCycle (s : State) (i : ChannelId) (st : Stage) :
    (s.setStage i st).ownCycle = s.ownCycle := rfl

@[simp] theorem State.setStage_placeWait (s : State) (i : ChannelId) (st : Stage) :
    (s.setStage i st).placeWait = s.placeWait := rfl

@[simp] theorem State.setStage_passedOver (s : State) (i : ChannelId) (st : Stage) :
    (s.setStage i st).passedOver = s.passedOver := rfl

@[simp] theorem State.setStage_presented (s : State) (i : ChannelId) (st : Stage) :
    (s.setStage i st).presented = s.presented := rfl

@[simp] theorem State.setStage_hostReply (s : State) (i : ChannelId) (st : Stage) :
    (s.setStage i st).hostReply = s.hostReply := rfl

@[simp] theorem State.setStage_memDrive (s : State) (i : ChannelId) (st : Stage) :
    (s.setStage i st).memDrive = s.memDrive := rfl

@[simp] theorem State.setStage_freeCells (s : State) (i : ChannelId) (st : Stage) :
    (s.setStage i st).freeCells = s.freeCells := rfl

@[simp] theorem State.setStage_cellWait (s : State) (i : ChannelId) (st : Stage) :
    (s.setStage i st).cellWait = s.cellWait := rfl

@[simp] theorem State.setStage_queue (s : State) (i : ChannelId) (st : Stage) :
    (s.setStage i st).queue = s.queue := rfl

@[simp] theorem State.setStage_sheetCounter (s : State) (i : ChannelId) (st : Stage) :
    (s.setStage i st).sheetCounter = s.sheetCounter := rfl

@[simp] theorem State.setStage_roomWait (s : State) (i : ChannelId) (st : Stage) :
    (s.setStage i st).roomWait = s.roomWait := rfl

@[simp] theorem State.setStage_link (s : State) (i : ChannelId) (st : Stage) :
    (s.setStage i st).link = s.link := rfl

@[simp] theorem State.setStage_linkSend (s : State) (i : ChannelId) (st : Stage) :
    (s.setStage i st).linkSend = s.linkSend := rfl

@[simp] theorem State.setStage_setup (s : State) (i : ChannelId) (st : Stage) :
    (s.setStage i st).setup = s.setup := rfl

@[simp] theorem State.setStage_panel (s : State) (i : ChannelId) (st : Stage) :
    (s.setStage i st).panel = s.panel := rfl

@[simp] theorem State.setStage_pending (s : State) (i : ChannelId) (st : Stage) :
    (s.setStage i st).pending = s.pending := rfl

/-! ### A channel read after an update of another field -/

@[simp] theorem State.ch_with_windows (s : State) (x : List Window) (i : ChannelId) :
    ({ s with windows := x } : State).ch i = s.ch i := by cases i <;> rfl

@[simp] theorem State.ch_with_shadow (s : State) (x : Memory) (i : ChannelId) :
    ({ s with shadow := x } : State).ch i = s.ch i := by cases i <;> rfl

@[simp] theorem State.ch_with_ownQueue (s : State) (x : List OwnEntry) (i : ChannelId) :
    ({ s with ownQueue := x } : State).ch i = s.ch i := by cases i <;> rfl

@[simp] theorem State.ch_with_ownCycle (s : State) (x : Option OwnEntry) (i : ChannelId) :
    ({ s with ownCycle := x } : State).ch i = s.ch i := by cases i <;> rfl

@[simp] theorem State.ch_with_placeWait (s : State) (x : List Requester) (i : ChannelId) :
    ({ s with placeWait := x } : State).ch i = s.ch i := by cases i <;> rfl

@[simp] theorem State.ch_with_passedOver (s : State) (x : Nat) (i : ChannelId) :
    ({ s with passedOver := x } : State).ch i = s.ch i := by cases i <;> rfl

@[simp] theorem State.ch_with_presented (s : State) (x : Option BusCycle) (i : ChannelId) :
    ({ s with presented := x } : State).ch i = s.ch i := by cases i <;> rfl

@[simp] theorem State.ch_with_hostReply (s : State) (x : Option HostReply) (i : ChannelId) :
    ({ s with hostReply := x } : State).ch i = s.ch i := by cases i <;> rfl

@[simp] theorem State.ch_with_memDrive (s : State) (x : Option BusCycle) (i : ChannelId) :
    ({ s with memDrive := x } : State).ch i = s.ch i := by cases i <;> rfl

@[simp] theorem State.ch_with_freeCells (s : State) (x : Nat) (i : ChannelId) :
    ({ s with freeCells := x } : State).ch i = s.ch i := by cases i <;> rfl

@[simp] theorem State.ch_with_cellWait (s : State) (x : List ChannelId) (i : ChannelId) :
    ({ s with cellWait := x } : State).ch i = s.ch i := by cases i <;> rfl

@[simp] theorem State.ch_with_queue (s : State) (x : List Sheet) (i : ChannelId) :
    ({ s with queue := x } : State).ch i = s.ch i := by cases i <;> rfl

@[simp] theorem State.ch_with_sheetCounter (s : State) (x : Word) (i : ChannelId) :
    ({ s with sheetCounter := x } : State).ch i = s.ch i := by cases i <;> rfl

@[simp] theorem State.ch_with_roomWait (s : State) (x : List Claim) (i : ChannelId) :
    ({ s with roomWait := x } : State).ch i = s.ch i := by cases i <;> rfl

@[simp] theorem State.ch_with_link (s : State) (x : LinkCtl) (i : ChannelId) :
    ({ s with link := x } : State).ch i = s.ch i := by cases i <;> rfl

@[simp] theorem State.ch_with_linkSend (s : State) (x : List Byte) (i : ChannelId) :
    ({ s with linkSend := x } : State).ch i = s.ch i := by cases i <;> rfl

@[simp] theorem State.ch_with_setup (s : State) (x : SetupUnit) (i : ChannelId) :
    ({ s with setup := x } : State).ch i = s.ch i := by cases i <;> rfl

@[simp] theorem State.ch_with_panel (s : State) (x : Panel) (i : ChannelId) :
    ({ s with panel := x } : State).ch i = s.ch i := by cases i <;> rfl

@[simp] theorem State.ch_with_pending (s : State) (x : List Instr) (i : ChannelId) :
    ({ s with pending := x } : State).ch i = s.ch i := by cases i <;> rfl

/-! ### A channel changed commutes with an update of another field -/

theorem State.modCh_with_windows (s : State) (x : List Window) (i : ChannelId) (f : Channel → Channel) :
    ({ s with windows := x } : State).modCh i f = { s.modCh i f with windows := x } := by cases i <;> rfl

theorem State.modCh_with_shadow (s : State) (x : Memory) (i : ChannelId) (f : Channel → Channel) :
    ({ s with shadow := x } : State).modCh i f = { s.modCh i f with shadow := x } := by cases i <;> rfl

theorem State.modCh_with_ownQueue (s : State) (x : List OwnEntry) (i : ChannelId) (f : Channel → Channel) :
    ({ s with ownQueue := x } : State).modCh i f = { s.modCh i f with ownQueue := x } := by cases i <;> rfl

theorem State.modCh_with_ownCycle (s : State) (x : Option OwnEntry) (i : ChannelId) (f : Channel → Channel) :
    ({ s with ownCycle := x } : State).modCh i f = { s.modCh i f with ownCycle := x } := by cases i <;> rfl

theorem State.modCh_with_placeWait (s : State) (x : List Requester) (i : ChannelId) (f : Channel → Channel) :
    ({ s with placeWait := x } : State).modCh i f = { s.modCh i f with placeWait := x } := by cases i <;> rfl

theorem State.modCh_with_passedOver (s : State) (x : Nat) (i : ChannelId) (f : Channel → Channel) :
    ({ s with passedOver := x } : State).modCh i f = { s.modCh i f with passedOver := x } := by cases i <;> rfl

theorem State.modCh_with_presented (s : State) (x : Option BusCycle) (i : ChannelId) (f : Channel → Channel) :
    ({ s with presented := x } : State).modCh i f = { s.modCh i f with presented := x } := by cases i <;> rfl

theorem State.modCh_with_hostReply (s : State) (x : Option HostReply) (i : ChannelId) (f : Channel → Channel) :
    ({ s with hostReply := x } : State).modCh i f = { s.modCh i f with hostReply := x } := by cases i <;> rfl

theorem State.modCh_with_memDrive (s : State) (x : Option BusCycle) (i : ChannelId) (f : Channel → Channel) :
    ({ s with memDrive := x } : State).modCh i f = { s.modCh i f with memDrive := x } := by cases i <;> rfl

theorem State.modCh_with_freeCells (s : State) (x : Nat) (i : ChannelId) (f : Channel → Channel) :
    ({ s with freeCells := x } : State).modCh i f = { s.modCh i f with freeCells := x } := by cases i <;> rfl

theorem State.modCh_with_cellWait (s : State) (x : List ChannelId) (i : ChannelId) (f : Channel → Channel) :
    ({ s with cellWait := x } : State).modCh i f = { s.modCh i f with cellWait := x } := by cases i <;> rfl

theorem State.modCh_with_queue (s : State) (x : List Sheet) (i : ChannelId) (f : Channel → Channel) :
    ({ s with queue := x } : State).modCh i f = { s.modCh i f with queue := x } := by cases i <;> rfl

theorem State.modCh_with_sheetCounter (s : State) (x : Word) (i : ChannelId) (f : Channel → Channel) :
    ({ s with sheetCounter := x } : State).modCh i f = { s.modCh i f with sheetCounter := x } := by cases i <;> rfl

theorem State.modCh_with_roomWait (s : State) (x : List Claim) (i : ChannelId) (f : Channel → Channel) :
    ({ s with roomWait := x } : State).modCh i f = { s.modCh i f with roomWait := x } := by cases i <;> rfl

theorem State.modCh_with_link (s : State) (x : LinkCtl) (i : ChannelId) (f : Channel → Channel) :
    ({ s with link := x } : State).modCh i f = { s.modCh i f with link := x } := by cases i <;> rfl

theorem State.modCh_with_linkSend (s : State) (x : List Byte) (i : ChannelId) (f : Channel → Channel) :
    ({ s with linkSend := x } : State).modCh i f = { s.modCh i f with linkSend := x } := by cases i <;> rfl

theorem State.modCh_with_setup (s : State) (x : SetupUnit) (i : ChannelId) (f : Channel → Channel) :
    ({ s with setup := x } : State).modCh i f = { s.modCh i f with setup := x } := by cases i <;> rfl

theorem State.modCh_with_panel (s : State) (x : Panel) (i : ChannelId) (f : Channel → Channel) :
    ({ s with panel := x } : State).modCh i f = { s.modCh i f with panel := x } := by cases i <;> rfl

theorem State.modCh_with_pending (s : State) (x : List Instr) (i : ChannelId) (f : Channel → Channel) :
    ({ s with pending := x } : State).modCh i f = { s.modCh i f with pending := x } := by cases i <;> rfl

/-! ### setResult -/

@[simp] theorem setResult_windows (code : ResultCode) (s : State) :
    (setResult code s).windows = s.windows := rfl

@[simp] theorem setResult_shadow (code : ResultCode) (s : State) :
    (setResult code s).shadow = s.shadow := rfl

@[simp] theorem setResult_ownQueue (code : ResultCode) (s : State) :
    (setResult code s).ownQueue = s.ownQueue := rfl

@[simp] theorem setResult_ownCycle (code : ResultCode) (s : State) :
    (setResult code s).ownCycle = s.ownCycle := rfl

@[simp] theorem setResult_placeWait (code : ResultCode) (s : State) :
    (setResult code s).placeWait = s.placeWait := rfl

@[simp] theorem setResult_passedOver (code : ResultCode) (s : State) :
    (setResult code s).passedOver = s.passedOver := rfl

@[simp] theorem setResult_presented (code : ResultCode) (s : State) :
    (setResult code s).presented = s.presented := rfl

@[simp] theorem setResult_hostReply (code : ResultCode) (s : State) :
    (setResult code s).hostReply = s.hostReply := rfl

@[simp] theorem setResult_memDrive (code : ResultCode) (s : State) :
    (setResult code s).memDrive = s.memDrive := rfl

@[simp] theorem setResult_freeCells (code : ResultCode) (s : State) :
    (setResult code s).freeCells = s.freeCells := rfl

@[simp] theorem setResult_cellWait (code : ResultCode) (s : State) :
    (setResult code s).cellWait = s.cellWait := rfl

@[simp] theorem setResult_queue (code : ResultCode) (s : State) :
    (setResult code s).queue = s.queue := rfl

@[simp] theorem setResult_sheetCounter (code : ResultCode) (s : State) :
    (setResult code s).sheetCounter = s.sheetCounter := rfl

@[simp] theorem setResult_roomWait (code : ResultCode) (s : State) :
    (setResult code s).roomWait = s.roomWait := rfl

@[simp] theorem setResult_link (code : ResultCode) (s : State) :
    (setResult code s).link = s.link := rfl

@[simp] theorem setResult_linkSend (code : ResultCode) (s : State) :
    (setResult code s).linkSend = s.linkSend := rfl

@[simp] theorem setResult_panel (code : ResultCode) (s : State) :
    (setResult code s).panel = s.panel := rfl

@[simp] theorem setResult_pending (code : ResultCode) (s : State) :
    (setResult code s).pending = s.pending := rfl

@[simp] theorem setResult_ch (code : ResultCode) (s : State) (i : ChannelId) :
    (setResult code s).ch i = s.ch i := by cases i <;> rfl

/-! ### setContact -/

@[simp] theorem setContact_windows (sw : PanelSwitch) (c : Contact) (s : State) :
    (setContact sw c s).windows = s.windows := rfl

@[simp] theorem setContact_shadow (sw : PanelSwitch) (c : Contact) (s : State) :
    (setContact sw c s).shadow = s.shadow := rfl

@[simp] theorem setContact_ownQueue (sw : PanelSwitch) (c : Contact) (s : State) :
    (setContact sw c s).ownQueue = s.ownQueue := rfl

@[simp] theorem setContact_ownCycle (sw : PanelSwitch) (c : Contact) (s : State) :
    (setContact sw c s).ownCycle = s.ownCycle := rfl

@[simp] theorem setContact_placeWait (sw : PanelSwitch) (c : Contact) (s : State) :
    (setContact sw c s).placeWait = s.placeWait := rfl

@[simp] theorem setContact_passedOver (sw : PanelSwitch) (c : Contact) (s : State) :
    (setContact sw c s).passedOver = s.passedOver := rfl

@[simp] theorem setContact_presented (sw : PanelSwitch) (c : Contact) (s : State) :
    (setContact sw c s).presented = s.presented := rfl

@[simp] theorem setContact_hostReply (sw : PanelSwitch) (c : Contact) (s : State) :
    (setContact sw c s).hostReply = s.hostReply := rfl

@[simp] theorem setContact_memDrive (sw : PanelSwitch) (c : Contact) (s : State) :
    (setContact sw c s).memDrive = s.memDrive := rfl

@[simp] theorem setContact_freeCells (sw : PanelSwitch) (c : Contact) (s : State) :
    (setContact sw c s).freeCells = s.freeCells := rfl

@[simp] theorem setContact_cellWait (sw : PanelSwitch) (c : Contact) (s : State) :
    (setContact sw c s).cellWait = s.cellWait := rfl

@[simp] theorem setContact_queue (sw : PanelSwitch) (c : Contact) (s : State) :
    (setContact sw c s).queue = s.queue := rfl

@[simp] theorem setContact_sheetCounter (sw : PanelSwitch) (c : Contact) (s : State) :
    (setContact sw c s).sheetCounter = s.sheetCounter := rfl

@[simp] theorem setContact_roomWait (sw : PanelSwitch) (c : Contact) (s : State) :
    (setContact sw c s).roomWait = s.roomWait := rfl

@[simp] theorem setContact_link (sw : PanelSwitch) (c : Contact) (s : State) :
    (setContact sw c s).link = s.link := rfl

@[simp] theorem setContact_linkSend (sw : PanelSwitch) (c : Contact) (s : State) :
    (setContact sw c s).linkSend = s.linkSend := rfl

@[simp] theorem setContact_setup (sw : PanelSwitch) (c : Contact) (s : State) :
    (setContact sw c s).setup = s.setup := rfl

@[simp] theorem setContact_pending (sw : PanelSwitch) (c : Contact) (s : State) :
    (setContact sw c s).pending = s.pending := rfl

@[simp] theorem setContact_ch (sw : PanelSwitch) (c : Contact) (s : State) (i : ChannelId) :
    (setContact sw c s).ch i = s.ch i := by cases i <;> rfl

/-! ### setReceiver -/

@[simp] theorem setReceiver_windows (r : Receiver) (s : State) :
    (setReceiver r s).windows = s.windows := rfl

@[simp] theorem setReceiver_shadow (r : Receiver) (s : State) :
    (setReceiver r s).shadow = s.shadow := rfl

@[simp] theorem setReceiver_ownQueue (r : Receiver) (s : State) :
    (setReceiver r s).ownQueue = s.ownQueue := rfl

@[simp] theorem setReceiver_ownCycle (r : Receiver) (s : State) :
    (setReceiver r s).ownCycle = s.ownCycle := rfl

@[simp] theorem setReceiver_placeWait (r : Receiver) (s : State) :
    (setReceiver r s).placeWait = s.placeWait := rfl

@[simp] theorem setReceiver_passedOver (r : Receiver) (s : State) :
    (setReceiver r s).passedOver = s.passedOver := rfl

@[simp] theorem setReceiver_presented (r : Receiver) (s : State) :
    (setReceiver r s).presented = s.presented := rfl

@[simp] theorem setReceiver_hostReply (r : Receiver) (s : State) :
    (setReceiver r s).hostReply = s.hostReply := rfl

@[simp] theorem setReceiver_memDrive (r : Receiver) (s : State) :
    (setReceiver r s).memDrive = s.memDrive := rfl

@[simp] theorem setReceiver_freeCells (r : Receiver) (s : State) :
    (setReceiver r s).freeCells = s.freeCells := rfl

@[simp] theorem setReceiver_cellWait (r : Receiver) (s : State) :
    (setReceiver r s).cellWait = s.cellWait := rfl

@[simp] theorem setReceiver_queue (r : Receiver) (s : State) :
    (setReceiver r s).queue = s.queue := rfl

@[simp] theorem setReceiver_sheetCounter (r : Receiver) (s : State) :
    (setReceiver r s).sheetCounter = s.sheetCounter := rfl

@[simp] theorem setReceiver_roomWait (r : Receiver) (s : State) :
    (setReceiver r s).roomWait = s.roomWait := rfl

@[simp] theorem setReceiver_linkSend (r : Receiver) (s : State) :
    (setReceiver r s).linkSend = s.linkSend := rfl

@[simp] theorem setReceiver_setup (r : Receiver) (s : State) :
    (setReceiver r s).setup = s.setup := rfl

@[simp] theorem setReceiver_panel (r : Receiver) (s : State) :
    (setReceiver r s).panel = s.panel := rfl

@[simp] theorem setReceiver_pending (r : Receiver) (s : State) :
    (setReceiver r s).pending = s.pending := rfl

@[simp] theorem setReceiver_ch (r : Receiver) (s : State) (i : ChannelId) :
    (setReceiver r s).ch i = s.ch i := by cases i <;> rfl

/-! ### countBadFrame -/

@[simp] theorem countBadFrame_windows (s : State) :
    (countBadFrame s).windows = s.windows := rfl

@[simp] theorem countBadFrame_shadow (s : State) :
    (countBadFrame s).shadow = s.shadow := rfl

@[simp] theorem countBadFrame_ownQueue (s : State) :
    (countBadFrame s).ownQueue = s.ownQueue := rfl

@[simp] theorem countBadFrame_ownCycle (s : State) :
    (countBadFrame s).ownCycle = s.ownCycle := rfl

@[simp] theorem countBadFrame_placeWait (s : State) :
    (countBadFrame s).placeWait = s.placeWait := rfl

@[simp] theorem countBadFrame_passedOver (s : State) :
    (countBadFrame s).passedOver = s.passedOver := rfl

@[simp] theorem countBadFrame_presented (s : State) :
    (countBadFrame s).presented = s.presented := rfl

@[simp] theorem countBadFrame_hostReply (s : State) :
    (countBadFrame s).hostReply = s.hostReply := rfl

@[simp] theorem countBadFrame_memDrive (s : State) :
    (countBadFrame s).memDrive = s.memDrive := rfl

@[simp] theorem countBadFrame_freeCells (s : State) :
    (countBadFrame s).freeCells = s.freeCells := rfl

@[simp] theorem countBadFrame_cellWait (s : State) :
    (countBadFrame s).cellWait = s.cellWait := rfl

@[simp] theorem countBadFrame_queue (s : State) :
    (countBadFrame s).queue = s.queue := rfl

@[simp] theorem countBadFrame_sheetCounter (s : State) :
    (countBadFrame s).sheetCounter = s.sheetCounter := rfl

@[simp] theorem countBadFrame_roomWait (s : State) :
    (countBadFrame s).roomWait = s.roomWait := rfl

@[simp] theorem countBadFrame_linkSend (s : State) :
    (countBadFrame s).linkSend = s.linkSend := rfl

@[simp] theorem countBadFrame_setup (s : State) :
    (countBadFrame s).setup = s.setup := rfl

@[simp] theorem countBadFrame_panel (s : State) :
    (countBadFrame s).panel = s.panel := rfl

@[simp] theorem countBadFrame_pending (s : State) :
    (countBadFrame s).pending = s.pending := rfl

@[simp] theorem countBadFrame_ch (s : State) (i : ChannelId) :
    (countBadFrame s).ch i = s.ch i := by cases i <;> rfl

/-! ### ignoreReply -/

@[simp] theorem ignoreReply_windows (s : State) :
    (ignoreReply s).windows = s.windows := rfl

@[simp] theorem ignoreReply_shadow (s : State) :
    (ignoreReply s).shadow = s.shadow := rfl

@[simp] theorem ignoreReply_ownQueue (s : State) :
    (ignoreReply s).ownQueue = s.ownQueue := rfl

@[simp] theorem ignoreReply_ownCycle (s : State) :
    (ignoreReply s).ownCycle = s.ownCycle := rfl

@[simp] theorem ignoreReply_placeWait (s : State) :
    (ignoreReply s).placeWait = s.placeWait := rfl

@[simp] theorem ignoreReply_passedOver (s : State) :
    (ignoreReply s).passedOver = s.passedOver := rfl

@[simp] theorem ignoreReply_presented (s : State) :
    (ignoreReply s).presented = s.presented := rfl

@[simp] theorem ignoreReply_hostReply (s : State) :
    (ignoreReply s).hostReply = s.hostReply := rfl

@[simp] theorem ignoreReply_memDrive (s : State) :
    (ignoreReply s).memDrive = s.memDrive := rfl

@[simp] theorem ignoreReply_freeCells (s : State) :
    (ignoreReply s).freeCells = s.freeCells := rfl

@[simp] theorem ignoreReply_cellWait (s : State) :
    (ignoreReply s).cellWait = s.cellWait := rfl

@[simp] theorem ignoreReply_queue (s : State) :
    (ignoreReply s).queue = s.queue := rfl

@[simp] theorem ignoreReply_sheetCounter (s : State) :
    (ignoreReply s).sheetCounter = s.sheetCounter := rfl

@[simp] theorem ignoreReply_roomWait (s : State) :
    (ignoreReply s).roomWait = s.roomWait := rfl

@[simp] theorem ignoreReply_linkSend (s : State) :
    (ignoreReply s).linkSend = s.linkSend := rfl

@[simp] theorem ignoreReply_setup (s : State) :
    (ignoreReply s).setup = s.setup := rfl

@[simp] theorem ignoreReply_panel (s : State) :
    (ignoreReply s).panel = s.panel := rfl

@[simp] theorem ignoreReply_pending (s : State) :
    (ignoreReply s).pending = s.pending := rfl

@[simp] theorem ignoreReply_ch (s : State) (i : ChannelId) :
    (ignoreReply s).ch i = s.ch i := by cases i <;> rfl

/-! ### giveMemory -/

@[simp] theorem giveMemory_windows (c : BusCycle) (s : State) :
    (giveMemory c s).windows = s.windows := rfl

@[simp] theorem giveMemory_shadow (c : BusCycle) (s : State) :
    (giveMemory c s).shadow = s.shadow := rfl

@[simp] theorem giveMemory_ownQueue (c : BusCycle) (s : State) :
    (giveMemory c s).ownQueue = s.ownQueue := rfl

@[simp] theorem giveMemory_ownCycle (c : BusCycle) (s : State) :
    (giveMemory c s).ownCycle = s.ownCycle := rfl

@[simp] theorem giveMemory_placeWait (c : BusCycle) (s : State) :
    (giveMemory c s).placeWait = s.placeWait := rfl

@[simp] theorem giveMemory_presented (c : BusCycle) (s : State) :
    (giveMemory c s).presented = s.presented := rfl

@[simp] theorem giveMemory_hostReply (c : BusCycle) (s : State) :
    (giveMemory c s).hostReply = s.hostReply := rfl

@[simp] theorem giveMemory_freeCells (c : BusCycle) (s : State) :
    (giveMemory c s).freeCells = s.freeCells := rfl

@[simp] theorem giveMemory_cellWait (c : BusCycle) (s : State) :
    (giveMemory c s).cellWait = s.cellWait := rfl

@[simp] theorem giveMemory_queue (c : BusCycle) (s : State) :
    (giveMemory c s).queue = s.queue := rfl

@[simp] theorem giveMemory_sheetCounter (c : BusCycle) (s : State) :
    (giveMemory c s).sheetCounter = s.sheetCounter := rfl

@[simp] theorem giveMemory_roomWait (c : BusCycle) (s : State) :
    (giveMemory c s).roomWait = s.roomWait := rfl

@[simp] theorem giveMemory_link (c : BusCycle) (s : State) :
    (giveMemory c s).link = s.link := rfl

@[simp] theorem giveMemory_linkSend (c : BusCycle) (s : State) :
    (giveMemory c s).linkSend = s.linkSend := rfl

@[simp] theorem giveMemory_setup (c : BusCycle) (s : State) :
    (giveMemory c s).setup = s.setup := rfl

@[simp] theorem giveMemory_panel (c : BusCycle) (s : State) :
    (giveMemory c s).panel = s.panel := rfl

@[simp] theorem giveMemory_pending (c : BusCycle) (s : State) :
    (giveMemory c s).pending = s.pending := rfl

@[simp] theorem giveMemory_ch (c : BusCycle) (s : State) (i : ChannelId) :
    (giveMemory c s).ch i = s.ch i := by cases i <;> rfl

/-! ### dropRunOut -/

@[simp] theorem dropRunOut_windows (ch : ChannelId) (s : State) :
    (dropRunOut ch s).windows = s.windows := rfl

@[simp] theorem dropRunOut_shadow (ch : ChannelId) (s : State) :
    (dropRunOut ch s).shadow = s.shadow := rfl

@[simp] theorem dropRunOut_ownQueue (ch : ChannelId) (s : State) :
    (dropRunOut ch s).ownQueue = s.ownQueue := rfl

@[simp] theorem dropRunOut_ownCycle (ch : ChannelId) (s : State) :
    (dropRunOut ch s).ownCycle = s.ownCycle := rfl

@[simp] theorem dropRunOut_placeWait (ch : ChannelId) (s : State) :
    (dropRunOut ch s).placeWait = s.placeWait := rfl

@[simp] theorem dropRunOut_passedOver (ch : ChannelId) (s : State) :
    (dropRunOut ch s).passedOver = s.passedOver := rfl

@[simp] theorem dropRunOut_presented (ch : ChannelId) (s : State) :
    (dropRunOut ch s).presented = s.presented := rfl

@[simp] theorem dropRunOut_hostReply (ch : ChannelId) (s : State) :
    (dropRunOut ch s).hostReply = s.hostReply := rfl

@[simp] theorem dropRunOut_memDrive (ch : ChannelId) (s : State) :
    (dropRunOut ch s).memDrive = s.memDrive := rfl

@[simp] theorem dropRunOut_freeCells (ch : ChannelId) (s : State) :
    (dropRunOut ch s).freeCells = s.freeCells := rfl

@[simp] theorem dropRunOut_cellWait (ch : ChannelId) (s : State) :
    (dropRunOut ch s).cellWait = s.cellWait := rfl

@[simp] theorem dropRunOut_queue (ch : ChannelId) (s : State) :
    (dropRunOut ch s).queue = s.queue := rfl

@[simp] theorem dropRunOut_sheetCounter (ch : ChannelId) (s : State) :
    (dropRunOut ch s).sheetCounter = s.sheetCounter := rfl

@[simp] theorem dropRunOut_link (ch : ChannelId) (s : State) :
    (dropRunOut ch s).link = s.link := rfl

@[simp] theorem dropRunOut_linkSend (ch : ChannelId) (s : State) :
    (dropRunOut ch s).linkSend = s.linkSend := rfl

@[simp] theorem dropRunOut_setup (ch : ChannelId) (s : State) :
    (dropRunOut ch s).setup = s.setup := rfl

@[simp] theorem dropRunOut_panel (ch : ChannelId) (s : State) :
    (dropRunOut ch s).panel = s.panel := rfl

@[simp] theorem dropRunOut_pending (ch : ChannelId) (s : State) :
    (dropRunOut ch s).pending = s.pending := rfl

/-! ### startOp -/

@[simp] theorem startOp_windows (ch : ChannelId) (op : Op) (s : State) :
    (startOp ch op s).windows = s.windows := rfl

@[simp] theorem startOp_shadow (ch : ChannelId) (op : Op) (s : State) :
    (startOp ch op s).shadow = s.shadow := rfl

@[simp] theorem startOp_ownQueue (ch : ChannelId) (op : Op) (s : State) :
    (startOp ch op s).ownQueue = s.ownQueue := rfl

@[simp] theorem startOp_ownCycle (ch : ChannelId) (op : Op) (s : State) :
    (startOp ch op s).ownCycle = s.ownCycle := rfl

@[simp] theorem startOp_placeWait (ch : ChannelId) (op : Op) (s : State) :
    (startOp ch op s).placeWait = s.placeWait := rfl

@[simp] theorem startOp_passedOver (ch : ChannelId) (op : Op) (s : State) :
    (startOp ch op s).passedOver = s.passedOver := rfl

@[simp] theorem startOp_presented (ch : ChannelId) (op : Op) (s : State) :
    (startOp ch op s).presented = s.presented := rfl

@[simp] theorem startOp_hostReply (ch : ChannelId) (op : Op) (s : State) :
    (startOp ch op s).hostReply = s.hostReply := rfl

@[simp] theorem startOp_memDrive (ch : ChannelId) (op : Op) (s : State) :
    (startOp ch op s).memDrive = s.memDrive := rfl

@[simp] theorem startOp_freeCells (ch : ChannelId) (op : Op) (s : State) :
    (startOp ch op s).freeCells = s.freeCells := rfl

@[simp] theorem startOp_cellWait (ch : ChannelId) (op : Op) (s : State) :
    (startOp ch op s).cellWait = s.cellWait := rfl

@[simp] theorem startOp_queue (ch : ChannelId) (op : Op) (s : State) :
    (startOp ch op s).queue = s.queue := rfl

@[simp] theorem startOp_sheetCounter (ch : ChannelId) (op : Op) (s : State) :
    (startOp ch op s).sheetCounter = s.sheetCounter := rfl

@[simp] theorem startOp_link (ch : ChannelId) (op : Op) (s : State) :
    (startOp ch op s).link = s.link := rfl

@[simp] theorem startOp_linkSend (ch : ChannelId) (op : Op) (s : State) :
    (startOp ch op s).linkSend = s.linkSend := rfl

@[simp] theorem startOp_setup (ch : ChannelId) (op : Op) (s : State) :
    (startOp ch op s).setup = s.setup := rfl

@[simp] theorem startOp_panel (ch : ChannelId) (op : Op) (s : State) :
    (startOp ch op s).panel = s.panel := rfl

@[simp] theorem startOp_pending (ch : ChannelId) (op : Op) (s : State) :
    (startOp ch op s).pending = s.pending := rfl

/-! ### removeTally -/

@[simp] theorem removeTally_windows (ch : ChannelId) (s : State) :
    (removeTally ch s).windows = s.windows := rfl

@[simp] theorem removeTally_shadow (ch : ChannelId) (s : State) :
    (removeTally ch s).shadow = s.shadow := rfl

@[simp] theorem removeTally_ownCycle (ch : ChannelId) (s : State) :
    (removeTally ch s).ownCycle = s.ownCycle := rfl

@[simp] theorem removeTally_placeWait (ch : ChannelId) (s : State) :
    (removeTally ch s).placeWait = s.placeWait := rfl

@[simp] theorem removeTally_presented (ch : ChannelId) (s : State) :
    (removeTally ch s).presented = s.presented := rfl

@[simp] theorem removeTally_hostReply (ch : ChannelId) (s : State) :
    (removeTally ch s).hostReply = s.hostReply := rfl

@[simp] theorem removeTally_memDrive (ch : ChannelId) (s : State) :
    (removeTally ch s).memDrive = s.memDrive := rfl

@[simp] theorem removeTally_freeCells (ch : ChannelId) (s : State) :
    (removeTally ch s).freeCells = s.freeCells := rfl

@[simp] theorem removeTally_cellWait (ch : ChannelId) (s : State) :
    (removeTally ch s).cellWait = s.cellWait := rfl

@[simp] theorem removeTally_queue (ch : ChannelId) (s : State) :
    (removeTally ch s).queue = s.queue := rfl

@[simp] theorem removeTally_sheetCounter (ch : ChannelId) (s : State) :
    (removeTally ch s).sheetCounter = s.sheetCounter := rfl

@[simp] theorem removeTally_roomWait (ch : ChannelId) (s : State) :
    (removeTally ch s).roomWait = s.roomWait := rfl

@[simp] theorem removeTally_link (ch : ChannelId) (s : State) :
    (removeTally ch s).link = s.link := rfl

@[simp] theorem removeTally_linkSend (ch : ChannelId) (s : State) :
    (removeTally ch s).linkSend = s.linkSend := rfl

@[simp] theorem removeTally_setup (ch : ChannelId) (s : State) :
    (removeTally ch s).setup = s.setup := rfl

@[simp] theorem removeTally_panel (ch : ChannelId) (s : State) :
    (removeTally ch s).panel = s.panel := rfl

@[simp] theorem removeTally_pending (ch : ChannelId) (s : State) :
    (removeTally ch s).pending = s.pending := rfl

@[simp] theorem removeTally_ch (ch : ChannelId) (s : State) (i : ChannelId) :
    (removeTally ch s).ch i = s.ch i := by cases i <;> rfl

/-! ### updateTally -/

@[simp] theorem updateTally_windows (ch : ChannelId) (s : State) :
    (updateTally ch s).windows = s.windows := rfl

@[simp] theorem updateTally_shadow (ch : ChannelId) (s : State) :
    (updateTally ch s).shadow = s.shadow := rfl

@[simp] theorem updateTally_ownCycle (ch : ChannelId) (s : State) :
    (updateTally ch s).ownCycle = s.ownCycle := rfl

@[simp] theorem updateTally_placeWait (ch : ChannelId) (s : State) :
    (updateTally ch s).placeWait = s.placeWait := rfl

@[simp] theorem updateTally_passedOver (ch : ChannelId) (s : State) :
    (updateTally ch s).passedOver = s.passedOver := rfl

@[simp] theorem updateTally_presented (ch : ChannelId) (s : State) :
    (updateTally ch s).presented = s.presented := rfl

@[simp] theorem updateTally_hostReply (ch : ChannelId) (s : State) :
    (updateTally ch s).hostReply = s.hostReply := rfl

@[simp] theorem updateTally_memDrive (ch : ChannelId) (s : State) :
    (updateTally ch s).memDrive = s.memDrive := rfl

@[simp] theorem updateTally_freeCells (ch : ChannelId) (s : State) :
    (updateTally ch s).freeCells = s.freeCells := rfl

@[simp] theorem updateTally_cellWait (ch : ChannelId) (s : State) :
    (updateTally ch s).cellWait = s.cellWait := rfl

@[simp] theorem updateTally_queue (ch : ChannelId) (s : State) :
    (updateTally ch s).queue = s.queue := rfl

@[simp] theorem updateTally_sheetCounter (ch : ChannelId) (s : State) :
    (updateTally ch s).sheetCounter = s.sheetCounter := rfl

@[simp] theorem updateTally_roomWait (ch : ChannelId) (s : State) :
    (updateTally ch s).roomWait = s.roomWait := rfl

@[simp] theorem updateTally_link (ch : ChannelId) (s : State) :
    (updateTally ch s).link = s.link := rfl

@[simp] theorem updateTally_linkSend (ch : ChannelId) (s : State) :
    (updateTally ch s).linkSend = s.linkSend := rfl

@[simp] theorem updateTally_setup (ch : ChannelId) (s : State) :
    (updateTally ch s).setup = s.setup := rfl

@[simp] theorem updateTally_panel (ch : ChannelId) (s : State) :
    (updateTally ch s).panel = s.panel := rfl

@[simp] theorem updateTally_pending (ch : ChannelId) (s : State) :
    (updateTally ch s).pending = s.pending := rfl

@[simp] theorem updateTally_ch (ch : ChannelId) (s : State) (i : ChannelId) :
    (updateTally ch s).ch i = s.ch i := by cases i <;> rfl

/-! ### bindWindows -/

@[simp] theorem bindWindows_ownQueue (x : ChannelRecord) (s : State) :
    (bindWindows x s).ownQueue = s.ownQueue := rfl

@[simp] theorem bindWindows_ownCycle (x : ChannelRecord) (s : State) :
    (bindWindows x s).ownCycle = s.ownCycle := rfl

@[simp] theorem bindWindows_placeWait (x : ChannelRecord) (s : State) :
    (bindWindows x s).placeWait = s.placeWait := rfl

@[simp] theorem bindWindows_passedOver (x : ChannelRecord) (s : State) :
    (bindWindows x s).passedOver = s.passedOver := rfl

@[simp] theorem bindWindows_presented (x : ChannelRecord) (s : State) :
    (bindWindows x s).presented = s.presented := rfl

@[simp] theorem bindWindows_hostReply (x : ChannelRecord) (s : State) :
    (bindWindows x s).hostReply = s.hostReply := rfl

@[simp] theorem bindWindows_memDrive (x : ChannelRecord) (s : State) :
    (bindWindows x s).memDrive = s.memDrive := rfl

@[simp] theorem bindWindows_freeCells (x : ChannelRecord) (s : State) :
    (bindWindows x s).freeCells = s.freeCells := rfl

@[simp] theorem bindWindows_cellWait (x : ChannelRecord) (s : State) :
    (bindWindows x s).cellWait = s.cellWait := rfl

@[simp] theorem bindWindows_queue (x : ChannelRecord) (s : State) :
    (bindWindows x s).queue = s.queue := rfl

@[simp] theorem bindWindows_sheetCounter (x : ChannelRecord) (s : State) :
    (bindWindows x s).sheetCounter = s.sheetCounter := rfl

@[simp] theorem bindWindows_roomWait (x : ChannelRecord) (s : State) :
    (bindWindows x s).roomWait = s.roomWait := rfl

@[simp] theorem bindWindows_link (x : ChannelRecord) (s : State) :
    (bindWindows x s).link = s.link := rfl

@[simp] theorem bindWindows_linkSend (x : ChannelRecord) (s : State) :
    (bindWindows x s).linkSend = s.linkSend := rfl

@[simp] theorem bindWindows_setup (x : ChannelRecord) (s : State) :
    (bindWindows x s).setup = s.setup := rfl

@[simp] theorem bindWindows_panel (x : ChannelRecord) (s : State) :
    (bindWindows x s).panel = s.panel := rfl

@[simp] theorem bindWindows_pending (x : ChannelRecord) (s : State) :
    (bindWindows x s).pending = s.pending := rfl

@[simp] theorem bindWindows_ch (x : ChannelRecord) (s : State) (i : ChannelId) :
    (bindWindows x s).ch i = s.ch i := by cases i <;> rfl

/-! ### unbindWindows -/

@[simp] theorem unbindWindows_ownQueue (ch : ChannelId) (s : State) :
    (unbindWindows ch s).ownQueue = s.ownQueue := rfl

@[simp] theorem unbindWindows_ownCycle (ch : ChannelId) (s : State) :
    (unbindWindows ch s).ownCycle = s.ownCycle := rfl

@[simp] theorem unbindWindows_placeWait (ch : ChannelId) (s : State) :
    (unbindWindows ch s).placeWait = s.placeWait := rfl

@[simp] theorem unbindWindows_passedOver (ch : ChannelId) (s : State) :
    (unbindWindows ch s).passedOver = s.passedOver := rfl

@[simp] theorem unbindWindows_presented (ch : ChannelId) (s : State) :
    (unbindWindows ch s).presented = s.presented := rfl

@[simp] theorem unbindWindows_hostReply (ch : ChannelId) (s : State) :
    (unbindWindows ch s).hostReply = s.hostReply := rfl

@[simp] theorem unbindWindows_memDrive (ch : ChannelId) (s : State) :
    (unbindWindows ch s).memDrive = s.memDrive := rfl

@[simp] theorem unbindWindows_freeCells (ch : ChannelId) (s : State) :
    (unbindWindows ch s).freeCells = s.freeCells := rfl

@[simp] theorem unbindWindows_cellWait (ch : ChannelId) (s : State) :
    (unbindWindows ch s).cellWait = s.cellWait := rfl

@[simp] theorem unbindWindows_queue (ch : ChannelId) (s : State) :
    (unbindWindows ch s).queue = s.queue := rfl

@[simp] theorem unbindWindows_sheetCounter (ch : ChannelId) (s : State) :
    (unbindWindows ch s).sheetCounter = s.sheetCounter := rfl

@[simp] theorem unbindWindows_roomWait (ch : ChannelId) (s : State) :
    (unbindWindows ch s).roomWait = s.roomWait := rfl

@[simp] theorem unbindWindows_link (ch : ChannelId) (s : State) :
    (unbindWindows ch s).link = s.link := rfl

@[simp] theorem unbindWindows_linkSend (ch : ChannelId) (s : State) :
    (unbindWindows ch s).linkSend = s.linkSend := rfl

@[simp] theorem unbindWindows_setup (ch : ChannelId) (s : State) :
    (unbindWindows ch s).setup = s.setup := rfl

@[simp] theorem unbindWindows_panel (ch : ChannelId) (s : State) :
    (unbindWindows ch s).panel = s.panel := rfl

@[simp] theorem unbindWindows_pending (ch : ChannelId) (s : State) :
    (unbindWindows ch s).pending = s.pending := rfl

@[simp] theorem unbindWindows_ch (ch : ChannelId) (s : State) (i : ChannelId) :
    (unbindWindows ch s).ch i = s.ch i := by cases i <;> rfl

/-! ### installTape -/

@[simp] theorem installTape_windows (ch : ChannelId) (t : Tape) (s : State) :
    (installTape ch t s).windows = s.windows := rfl

@[simp] theorem installTape_shadow (ch : ChannelId) (t : Tape) (s : State) :
    (installTape ch t s).shadow = s.shadow := rfl

@[simp] theorem installTape_ownQueue (ch : ChannelId) (t : Tape) (s : State) :
    (installTape ch t s).ownQueue = s.ownQueue := rfl

@[simp] theorem installTape_ownCycle (ch : ChannelId) (t : Tape) (s : State) :
    (installTape ch t s).ownCycle = s.ownCycle := rfl

@[simp] theorem installTape_placeWait (ch : ChannelId) (t : Tape) (s : State) :
    (installTape ch t s).placeWait = s.placeWait := rfl

@[simp] theorem installTape_passedOver (ch : ChannelId) (t : Tape) (s : State) :
    (installTape ch t s).passedOver = s.passedOver := rfl

@[simp] theorem installTape_presented (ch : ChannelId) (t : Tape) (s : State) :
    (installTape ch t s).presented = s.presented := rfl

@[simp] theorem installTape_hostReply (ch : ChannelId) (t : Tape) (s : State) :
    (installTape ch t s).hostReply = s.hostReply := rfl

@[simp] theorem installTape_memDrive (ch : ChannelId) (t : Tape) (s : State) :
    (installTape ch t s).memDrive = s.memDrive := rfl

@[simp] theorem installTape_freeCells (ch : ChannelId) (t : Tape) (s : State) :
    (installTape ch t s).freeCells = s.freeCells := rfl

@[simp] theorem installTape_cellWait (ch : ChannelId) (t : Tape) (s : State) :
    (installTape ch t s).cellWait = s.cellWait := rfl

@[simp] theorem installTape_queue (ch : ChannelId) (t : Tape) (s : State) :
    (installTape ch t s).queue = s.queue := rfl

@[simp] theorem installTape_sheetCounter (ch : ChannelId) (t : Tape) (s : State) :
    (installTape ch t s).sheetCounter = s.sheetCounter := rfl

@[simp] theorem installTape_roomWait (ch : ChannelId) (t : Tape) (s : State) :
    (installTape ch t s).roomWait = s.roomWait := rfl

@[simp] theorem installTape_link (ch : ChannelId) (t : Tape) (s : State) :
    (installTape ch t s).link = s.link := rfl

@[simp] theorem installTape_linkSend (ch : ChannelId) (t : Tape) (s : State) :
    (installTape ch t s).linkSend = s.linkSend := rfl

@[simp] theorem installTape_setup (ch : ChannelId) (t : Tape) (s : State) :
    (installTape ch t s).setup = s.setup := rfl

@[simp] theorem installTape_panel (ch : ChannelId) (t : Tape) (s : State) :
    (installTape ch t s).panel = s.panel := rfl

@[simp] theorem installTape_pending (ch : ChannelId) (t : Tape) (s : State) :
    (installTape ch t s).pending = s.pending := rfl

/-! ### refuseGo -/

@[simp] theorem refuseGo_windows (ch : ChannelId) (s : State) :
    (refuseGo ch s).windows = s.windows := rfl

@[simp] theorem refuseGo_shadow (ch : ChannelId) (s : State) :
    (refuseGo ch s).shadow = s.shadow := rfl

@[simp] theorem refuseGo_ownQueue (ch : ChannelId) (s : State) :
    (refuseGo ch s).ownQueue = s.ownQueue := rfl

@[simp] theorem refuseGo_ownCycle (ch : ChannelId) (s : State) :
    (refuseGo ch s).ownCycle = s.ownCycle := rfl

@[simp] theorem refuseGo_placeWait (ch : ChannelId) (s : State) :
    (refuseGo ch s).placeWait = s.placeWait := rfl

@[simp] theorem refuseGo_passedOver (ch : ChannelId) (s : State) :
    (refuseGo ch s).passedOver = s.passedOver := rfl

@[simp] theorem refuseGo_presented (ch : ChannelId) (s : State) :
    (refuseGo ch s).presented = s.presented := rfl

@[simp] theorem refuseGo_hostReply (ch : ChannelId) (s : State) :
    (refuseGo ch s).hostReply = s.hostReply := rfl

@[simp] theorem refuseGo_memDrive (ch : ChannelId) (s : State) :
    (refuseGo ch s).memDrive = s.memDrive := rfl

@[simp] theorem refuseGo_freeCells (ch : ChannelId) (s : State) :
    (refuseGo ch s).freeCells = s.freeCells := rfl

@[simp] theorem refuseGo_cellWait (ch : ChannelId) (s : State) :
    (refuseGo ch s).cellWait = s.cellWait := rfl

@[simp] theorem refuseGo_queue (ch : ChannelId) (s : State) :
    (refuseGo ch s).queue = s.queue := rfl

@[simp] theorem refuseGo_sheetCounter (ch : ChannelId) (s : State) :
    (refuseGo ch s).sheetCounter = s.sheetCounter := rfl

@[simp] theorem refuseGo_roomWait (ch : ChannelId) (s : State) :
    (refuseGo ch s).roomWait = s.roomWait := rfl

@[simp] theorem refuseGo_link (ch : ChannelId) (s : State) :
    (refuseGo ch s).link = s.link := rfl

@[simp] theorem refuseGo_linkSend (ch : ChannelId) (s : State) :
    (refuseGo ch s).linkSend = s.linkSend := rfl

@[simp] theorem refuseGo_setup (ch : ChannelId) (s : State) :
    (refuseGo ch s).setup = s.setup := rfl

@[simp] theorem refuseGo_panel (ch : ChannelId) (s : State) :
    (refuseGo ch s).panel = s.panel := rfl

@[simp] theorem refuseGo_pending (ch : ChannelId) (s : State) :
    (refuseGo ch s).pending = s.pending := rfl

/-! ### statusTaken -/

@[simp] theorem statusTaken_windows (ch : ChannelId) (s : State) :
    (statusTaken ch s).windows = s.windows := rfl

@[simp] theorem statusTaken_shadow (ch : ChannelId) (s : State) :
    (statusTaken ch s).shadow = s.shadow := rfl

@[simp] theorem statusTaken_ownQueue (ch : ChannelId) (s : State) :
    (statusTaken ch s).ownQueue = s.ownQueue := rfl

@[simp] theorem statusTaken_ownCycle (ch : ChannelId) (s : State) :
    (statusTaken ch s).ownCycle = s.ownCycle := rfl

@[simp] theorem statusTaken_placeWait (ch : ChannelId) (s : State) :
    (statusTaken ch s).placeWait = s.placeWait := rfl

@[simp] theorem statusTaken_passedOver (ch : ChannelId) (s : State) :
    (statusTaken ch s).passedOver = s.passedOver := rfl

@[simp] theorem statusTaken_presented (ch : ChannelId) (s : State) :
    (statusTaken ch s).presented = s.presented := rfl

@[simp] theorem statusTaken_hostReply (ch : ChannelId) (s : State) :
    (statusTaken ch s).hostReply = s.hostReply := rfl

@[simp] theorem statusTaken_memDrive (ch : ChannelId) (s : State) :
    (statusTaken ch s).memDrive = s.memDrive := rfl

@[simp] theorem statusTaken_freeCells (ch : ChannelId) (s : State) :
    (statusTaken ch s).freeCells = s.freeCells := rfl

@[simp] theorem statusTaken_cellWait (ch : ChannelId) (s : State) :
    (statusTaken ch s).cellWait = s.cellWait := rfl

@[simp] theorem statusTaken_queue (ch : ChannelId) (s : State) :
    (statusTaken ch s).queue = s.queue := rfl

@[simp] theorem statusTaken_sheetCounter (ch : ChannelId) (s : State) :
    (statusTaken ch s).sheetCounter = s.sheetCounter := rfl

@[simp] theorem statusTaken_roomWait (ch : ChannelId) (s : State) :
    (statusTaken ch s).roomWait = s.roomWait := rfl

@[simp] theorem statusTaken_link (ch : ChannelId) (s : State) :
    (statusTaken ch s).link = s.link := rfl

@[simp] theorem statusTaken_linkSend (ch : ChannelId) (s : State) :
    (statusTaken ch s).linkSend = s.linkSend := rfl

@[simp] theorem statusTaken_setup (ch : ChannelId) (s : State) :
    (statusTaken ch s).setup = s.setup := rfl

@[simp] theorem statusTaken_panel (ch : ChannelId) (s : State) :
    (statusTaken ch s).panel = s.panel := rfl

@[simp] theorem statusTaken_pending (ch : ChannelId) (s : State) :
    (statusTaken ch s).pending = s.pending := rfl

/-! ### endPanelOp -/

@[simp] theorem endPanelOp_windows (ch : ChannelId) (s : State) :
    (endPanelOp ch s).windows = s.windows := rfl

@[simp] theorem endPanelOp_shadow (ch : ChannelId) (s : State) :
    (endPanelOp ch s).shadow = s.shadow := rfl

@[simp] theorem endPanelOp_ownQueue (ch : ChannelId) (s : State) :
    (endPanelOp ch s).ownQueue = s.ownQueue := rfl

@[simp] theorem endPanelOp_ownCycle (ch : ChannelId) (s : State) :
    (endPanelOp ch s).ownCycle = s.ownCycle := rfl

@[simp] theorem endPanelOp_placeWait (ch : ChannelId) (s : State) :
    (endPanelOp ch s).placeWait = s.placeWait := rfl

@[simp] theorem endPanelOp_passedOver (ch : ChannelId) (s : State) :
    (endPanelOp ch s).passedOver = s.passedOver := rfl

@[simp] theorem endPanelOp_presented (ch : ChannelId) (s : State) :
    (endPanelOp ch s).presented = s.presented := rfl

@[simp] theorem endPanelOp_hostReply (ch : ChannelId) (s : State) :
    (endPanelOp ch s).hostReply = s.hostReply := rfl

@[simp] theorem endPanelOp_memDrive (ch : ChannelId) (s : State) :
    (endPanelOp ch s).memDrive = s.memDrive := rfl

@[simp] theorem endPanelOp_freeCells (ch : ChannelId) (s : State) :
    (endPanelOp ch s).freeCells = s.freeCells := rfl

@[simp] theorem endPanelOp_cellWait (ch : ChannelId) (s : State) :
    (endPanelOp ch s).cellWait = s.cellWait := rfl

@[simp] theorem endPanelOp_queue (ch : ChannelId) (s : State) :
    (endPanelOp ch s).queue = s.queue := rfl

@[simp] theorem endPanelOp_sheetCounter (ch : ChannelId) (s : State) :
    (endPanelOp ch s).sheetCounter = s.sheetCounter := rfl

@[simp] theorem endPanelOp_roomWait (ch : ChannelId) (s : State) :
    (endPanelOp ch s).roomWait = s.roomWait := rfl

@[simp] theorem endPanelOp_link (ch : ChannelId) (s : State) :
    (endPanelOp ch s).link = s.link := rfl

@[simp] theorem endPanelOp_linkSend (ch : ChannelId) (s : State) :
    (endPanelOp ch s).linkSend = s.linkSend := rfl

@[simp] theorem endPanelOp_setup (ch : ChannelId) (s : State) :
    (endPanelOp ch s).setup = s.setup := rfl

@[simp] theorem endPanelOp_panel (ch : ChannelId) (s : State) :
    (endPanelOp ch s).panel = s.panel := rfl

@[simp] theorem endPanelOp_pending (ch : ChannelId) (s : State) :
    (endPanelOp ch s).pending = s.pending := rfl

/-! ### settleStop -/

@[simp] theorem settleStop_windows (ch : ChannelId) (s : State) :
    (settleStop ch s).windows = s.windows := rfl

@[simp] theorem settleStop_shadow (ch : ChannelId) (s : State) :
    (settleStop ch s).shadow = s.shadow := rfl

@[simp] theorem settleStop_ownQueue (ch : ChannelId) (s : State) :
    (settleStop ch s).ownQueue = s.ownQueue := rfl

@[simp] theorem settleStop_ownCycle (ch : ChannelId) (s : State) :
    (settleStop ch s).ownCycle = s.ownCycle := rfl

@[simp] theorem settleStop_placeWait (ch : ChannelId) (s : State) :
    (settleStop ch s).placeWait = s.placeWait := rfl

@[simp] theorem settleStop_passedOver (ch : ChannelId) (s : State) :
    (settleStop ch s).passedOver = s.passedOver := rfl

@[simp] theorem settleStop_presented (ch : ChannelId) (s : State) :
    (settleStop ch s).presented = s.presented := rfl

@[simp] theorem settleStop_hostReply (ch : ChannelId) (s : State) :
    (settleStop ch s).hostReply = s.hostReply := rfl

@[simp] theorem settleStop_memDrive (ch : ChannelId) (s : State) :
    (settleStop ch s).memDrive = s.memDrive := rfl

@[simp] theorem settleStop_freeCells (ch : ChannelId) (s : State) :
    (settleStop ch s).freeCells = s.freeCells := rfl

@[simp] theorem settleStop_cellWait (ch : ChannelId) (s : State) :
    (settleStop ch s).cellWait = s.cellWait := rfl

@[simp] theorem settleStop_queue (ch : ChannelId) (s : State) :
    (settleStop ch s).queue = s.queue := rfl

@[simp] theorem settleStop_sheetCounter (ch : ChannelId) (s : State) :
    (settleStop ch s).sheetCounter = s.sheetCounter := rfl

@[simp] theorem settleStop_roomWait (ch : ChannelId) (s : State) :
    (settleStop ch s).roomWait = s.roomWait := rfl

@[simp] theorem settleStop_link (ch : ChannelId) (s : State) :
    (settleStop ch s).link = s.link := rfl

@[simp] theorem settleStop_linkSend (ch : ChannelId) (s : State) :
    (settleStop ch s).linkSend = s.linkSend := rfl

@[simp] theorem settleStop_setup (ch : ChannelId) (s : State) :
    (settleStop ch s).setup = s.setup := rfl

@[simp] theorem settleStop_panel (ch : ChannelId) (s : State) :
    (settleStop ch s).panel = s.panel := rfl

@[simp] theorem settleStop_pending (ch : ChannelId) (s : State) :
    (settleStop ch s).pending = s.pending := rfl

/-! ### loseLink -/

@[simp] theorem loseLink_windows (s : State) :
    (loseLink s).windows = s.windows := rfl

@[simp] theorem loseLink_shadow (s : State) :
    (loseLink s).shadow = s.shadow := rfl

@[simp] theorem loseLink_ownQueue (s : State) :
    (loseLink s).ownQueue = s.ownQueue := rfl

@[simp] theorem loseLink_ownCycle (s : State) :
    (loseLink s).ownCycle = s.ownCycle := rfl

@[simp] theorem loseLink_placeWait (s : State) :
    (loseLink s).placeWait = s.placeWait := rfl

@[simp] theorem loseLink_passedOver (s : State) :
    (loseLink s).passedOver = s.passedOver := rfl

@[simp] theorem loseLink_presented (s : State) :
    (loseLink s).presented = s.presented := rfl

@[simp] theorem loseLink_hostReply (s : State) :
    (loseLink s).hostReply = s.hostReply := rfl

@[simp] theorem loseLink_memDrive (s : State) :
    (loseLink s).memDrive = s.memDrive := rfl

@[simp] theorem loseLink_freeCells (s : State) :
    (loseLink s).freeCells = s.freeCells := rfl

@[simp] theorem loseLink_cellWait (s : State) :
    (loseLink s).cellWait = s.cellWait := rfl

@[simp] theorem loseLink_queue (s : State) :
    (loseLink s).queue = s.queue := rfl

@[simp] theorem loseLink_sheetCounter (s : State) :
    (loseLink s).sheetCounter = s.sheetCounter := rfl

@[simp] theorem loseLink_roomWait (s : State) :
    (loseLink s).roomWait = s.roomWait := rfl

@[simp] theorem loseLink_linkSend (s : State) :
    (loseLink s).linkSend = s.linkSend := rfl

@[simp] theorem loseLink_setup (s : State) :
    (loseLink s).setup = s.setup := rfl

@[simp] theorem loseLink_panel (s : State) :
    (loseLink s).panel = s.panel := rfl

@[simp] theorem loseLink_pending (s : State) :
    (loseLink s).pending = s.pending := rfl

@[simp] theorem loseLink_ch (s : State) (i : ChannelId) :
    (loseLink s).ch i = s.ch i := by cases i <;> rfl

/-! ### What they set -/

@[simp] theorem setResult_result (code : ResultCode) (s : State) :
    (setResult code s).setup.result = code := rfl

@[simp] theorem giveMemory_memDrive (c : BusCycle) (s : State) :
    (giveMemory c s).memDrive = some c := rfl

@[simp] theorem startOp_ch_same (ch : ChannelId) (op : Op) (s : State) :
    (startOp ch op s).ch ch = { s.ch ch with state := .busy op, runOutDue := false } := by
  cases ch <;> rfl

theorem startOp_ch_other (op : Op) (s : State) {ch i : ChannelId} (h : i ≠ ch) :
    (startOp ch op s).ch i = s.ch i := by cases ch <;> cases i <;> first | rfl | exact absurd rfl h

@[simp] theorem dropRunOut_ch_same (ch : ChannelId) (s : State) :
    (dropRunOut ch s).ch ch = { s.ch ch with runOutDue := false } := by cases ch <;> rfl

/-- The stage of a busy channel is the one set, its other parts are kept. -/
theorem State.setStage_busy (s : State) (ch : ChannelId) (st : Stage) (op : Op)
    (h : (s.ch ch).state = .busy op) :
    s.setStage ch st = s.setCh ch { s.ch ch with state := .busy { op with stage := st } } := by
  simp [State.setStage, State.modCh, h]

end Sys2Proof.Machine
end

