-- ==== Sys2Proof/Laws/Frames.lean ====
section
/-! SUPPORT. What the printing operations leave alone: one lemma for each shared operation, cited in place
of unfolding it. -/

namespace Sys2Proof.Machine

/-- The fields that no operation of the channels, the form store or the link changes. -/
structure PathKept (s t : State) : Prop where
  windows : t.windows = s.windows
  shadow : t.shadow = s.shadow
  ownCycle : t.ownCycle = s.ownCycle
  passedOver : t.passedOver = s.passedOver
  presented : t.presented = s.presented
  hostReply : t.hostReply = s.hostReply
  memDrive : t.memDrive = s.memDrive
  panel : t.panel = s.panel
  pending : t.pending = s.pending

/-- As `PathKept`, with the setup unit and the place-wait list: what an operation without fetches keeps. -/
structure PrintKept (s t : State) : Prop extends PathKept s t where
  setup : t.setup = s.setup
  placeWait : t.placeWait = s.placeWait

theorem PathKept.refl (s : State) : PathKept s s := ⟨rfl, rfl, rfl, rfl, rfl, rfl, rfl, rfl, rfl⟩

theorem PathKept.trans {s t u : State} (h : PathKept s t) (k : PathKept t u) : PathKept s u :=
  ⟨k.windows.trans h.windows, k.shadow.trans h.shadow, k.ownCycle.trans h.ownCycle,
    k.passedOver.trans h.passedOver, k.presented.trans h.presented, k.hostReply.trans h.hostReply,
    k.memDrive.trans h.memDrive, k.panel.trans h.panel, k.pending.trans h.pending⟩

theorem PrintKept.refl (s : State) : PrintKept s s := ⟨PathKept.refl s, rfl, rfl⟩

theorem PrintKept.trans {s t u : State} (h : PrintKept s t) (k : PrintKept t u) : PrintKept s u :=
  ⟨h.toPathKept.trans k.toPathKept, k.setup.trans h.setup, k.placeWait.trans h.placeWait⟩

theorem PrintKept.of_rfl {s t : State}
    (h : t = { s with chans := t.chans, ownQueue := t.ownQueue, freeCells := t.freeCells,
                      cellWait := t.cellWait, queue := t.queue, sheetCounter := t.sheetCounter,
                      roomWait := t.roomWait, link := t.link, linkSend := t.linkSend }) :
    PrintKept s t := by
  rw [h]; exact ⟨⟨rfl, rfl, rfl, rfl, rfl, rfl, rfl, rfl, rfl⟩, rfl, rfl⟩

theorem modCh_kept (i : ChannelId) (f : Channel → Channel) (s : State) : PrintKept s (s.modCh i f) :=
  .of_rfl rfl

theorem setStage_kept (i : ChannelId) (st : Stage) (s : State) : PrintKept s (s.setStage i st) :=
  .of_rfl rfl

/-! ### Own queue and fetch places -/

theorem requestTally_kept (ch : ChannelId) (s : State) : PrintKept s (requestTally ch s) := by
  unfold requestTally; simp only; split <;> exact .of_rfl rfl

theorem giveListed_kept (s : State) (req : Requester) : PathKept s (s.giveListed req) := by
  unfold State.giveListed
  repeat' split
  all_goals exact ⟨rfl, rfl, rfl, rfl, rfl, rfl, rfl, rfl, rfl⟩

theorem grantPlace_kept (s : State) : PathKept s (grantPlace s) := by
  unfold grantPlace
  split
  · exact .refl s
  · split
    · exact ⟨rfl, rfl, rfl, rfl, rfl, rfl, rfl, rfl, rfl⟩
    · exact (giveListed_kept s _).trans ⟨rfl, rfl, rfl, rfl, rfl, rfl, rfl, rfl, rfl⟩

theorem grantPlaces_kept (n : Nat) (s : State) : PathKept s (grantPlaces n s) := by
  induction n generalizing s with
  | zero => exact .refl s
  | succ n ih => exact (grantPlace_kept s).trans (ih _)

theorem askPlaces_kept (req : Requester) (s : State) : PathKept s (askPlaces req s) := by
  unfold askPlaces
  split
  · exact .refl s
  · split
    · exact PathKept.trans (t := { s with placeWait := [req] })
        ⟨rfl, rfl, rfl, rfl, rfl, rfl, rfl, rfl, rfl⟩ (grantPlaces_kept _ _)
    · exact ⟨rfl, rfl, rfl, rfl, rfl, rfl, rfl, rfl, rfl⟩

/-! ### Sheets and forms -/

theorem startSheet_kept (s : State) : PrintKept s (startSheet s) := by
  unfold startSheet
  repeat' split
  all_goals exact .of_rfl rfl

theorem resendSheet_kept (s : State) : PrintKept s (resendSheet s) := by
  unfold resendSheet; split <;> exact .of_rfl rfl

theorem enterQueue_kept (ch : ChannelId) (f0 : Form) (f1 : Option Form) (s : State) :
    PrintKept s (enterQueue ch f0 f1 s) := by
  unfold enterQueue
  simp only
  split
  · exact PrintKept.trans (.of_rfl rfl) (startSheet_kept _)
  · exact .of_rfl rfl

theorem mergeLine_kept (ch : ChannelId) (k : List Strike) (s : State) :
    PrintKept s (mergeLine ch k s) := by
  unfold mergeLine; split <;> exact .of_rfl rfl

theorem routeClose_kept (ch : ChannelId) (f : Form) (s : State) :
    PrintKept s (routeClose ch f s) := by
  unfold routeClose
  split
  · split
    · exact .of_rfl rfl
    · exact (modCh_kept ch _ s).trans (enterQueue_kept ..)
  · exact enterQueue_kept ..

theorem releaseSheet_kept (ch : ChannelId) (s : State) : PrintKept s (releaseSheet ch s) := by
  unfold releaseSheet
  split
  · exact .refl s
  · exact (modCh_kept ch _ s).trans (enterQueue_kept ..)

theorem breakForm_kept (ch : ChannelId) (s : State) : PrintKept s (breakForm ch s) := by
  unfold breakForm
  split
  · exact .refl s
  · exact (modCh_kept ch _ s).trans (routeClose_kept ..)

theorem breakVictim_kept (v : ChannelId) (s : State) : PrintKept s (breakVictim v s) := by
  unfold breakVictim
  simp only
  split
  · exact ((breakForm_kept v s).trans (modCh_kept ..)).trans (releaseSheet_kept ..)
  · exact (breakForm_kept v s).trans (modCh_kept ..)

/-- The last resort of a forced break, after its first two steps. -/
theorem lastResort_kept (n : Nat) (s : State) :
    PrintKept s
      (if s.queue.length = n then
        match mostOf fun ch => (s.ch ch).pendSheet.map Form.cellCount with
        | some ch => releaseSheet ch s
        | none => s
      else s) := by
  repeat' split
  all_goals first
    | exact releaseSheet_kept ..
    | exact .refl s

theorem forcedBreak_kept (w : ChannelId) (s : State) : PrintKept s (forcedBreak w s) := by
  have h1 : PrintKept s (match victimOf w s with | some v => breakVictim v s | none => s) := by
    split
    · exact breakVictim_kept ..
    · exact .refl s
  exact (h1.trans (releaseSheet_kept w _)).trans (lastResort_kept _ _)

/-! ### Operations -/

theorem startOp_kept (ch : ChannelId) (op : Op) (s : State) : PrintKept s (startOp ch op s) :=
  .of_rfl rfl

theorem dropRunOut_kept (ch : ChannelId) (s : State) : PrintKept s (dropRunOut ch s) := .of_rfl rfl

theorem joinRoom_kept (x : Claim) (s : State) : PrintKept s (joinRoom x s) := by
  unfold joinRoom; split <;> exact .of_rfl rfl

theorem makeMove_kept (ch : ChannelId) (p : Paper) (w : Walk) (s : State) :
    PrintKept s (makeMove ch p w s) := by
  unfold makeMove
  simp only
  split
  · exact (modCh_kept ch _ s).trans (routeClose_kept ..)
  · exact modCh_kept ..

theorem endPanelOp_kept (ch : ChannelId) (s : State) : PrintKept s (endPanelOp ch s) :=
  modCh_kept ..

theorem panelMove_kept (ch : ChannelId) (s : State) : PrintKept s (panelMove ch s) := by
  unfold panelMove
  split
  · exact endPanelOp_kept ..
  · simp only
    split
    · exact (makeMove_kept ..).trans (endPanelOp_kept ..)
    · exact joinRoom_kept ..

theorem startEject_kept (ch : ChannelId) (s : State) : PrintKept s (startEject ch s) :=
  (startOp_kept ..).trans (panelMove_kept ..)

theorem settleStop_kept (ch : ChannelId) (s : State) : PrintKept s (settleStop ch s) := modCh_kept ..

theorem applyPending_kept (ch : ChannelId) (s : State) : PrintKept s (applyPending ch s) := by
  unfold applyPending
  split
  · simp only
    split
    · exact (modCh_kept ..).trans (startEject_kept ..)
    · exact (modCh_kept ..).trans (settleStop_kept ..)
  · exact settleStop_kept ..

theorem complete_kept (ch : ChannelId) (out : OpOutcome) (s : State) :
    PrintKept s (complete ch out s) := by
  unfold complete
  split
  · rename_i op _
    have h : PrintKept s
        (if op.kind.isPrint && op.linePlaced then requestTally ch (s.modCh ch fun c => c.completed op out)
         else s.modCh ch fun c => c.completed op out) := by
      split
      · exact (modCh_kept ..).trans (requestTally_kept ..)
      · exact modCh_kept ..
    simp only
    split
    · exact h
    · exact h.trans (applyPending_kept ..)
  · exact .refl s

theorem loadMove_kept (ch : ChannelId) (t : Tape) (s : State) : PrintKept s (loadMove ch t s) := by
  have hi : PrintKept s (installTape ch t s) := modCh_kept ..
  unfold loadMove
  split
  · exact hi.trans (complete_kept ..)
  · split
    · exact hi.trans (complete_kept ..)
    · split
      · exact (hi.trans (routeClose_kept ..)).trans (complete_kept ..)
      · exact joinRoom_kept ..

theorem carriageMove_kept (ch : ChannelId) (op : Op) (s : State) :
    PrintKept s (carriageMove ch op s) := by
  unfold carriageMove
  split
  · exact .refl s
  · split
    · exact complete_kept ..
    · simp only
      split
      · exact (makeMove_kept ..).trans (complete_kept ..)
      · exact joinRoom_kept ..

theorem tryMove_kept (ch : ChannelId) (s : State) : PrintKept s (tryMove ch s) := by
  unfold tryMove
  repeat' split
  all_goals first
    | exact panelMove_kept ..
    | exact loadMove_kept ..
    | exact carriageMove_kept ..
    | exact .refl s

theorem retryLines_kept (l : List ChannelId) (s : State) : PrintKept s (retryLines l s) := by
  induction l generalizing s with
  | nil => exact .refl s
  | cons ch rest ih =>
    unfold retryLines
    split
    · exact .refl s
    · split
      · refine PrintKept.trans ?_ (ih _)
        refine PrintKept.trans ?_ (tryMove_kept ..)
        exact PrintKept.trans (.of_rfl rfl) (mergeLine_kept ..)
      · exact .refl s

theorem retryWaiting_kept (s : State) : PrintKept s (retryWaiting s) := retryLines_kept ..

theorem forceIfDry_kept (s : State) : PrintKept s (forceIfDry s) := by
  unfold forceIfDry
  split
  · simp only
    split
    · exact (forcedBreak_kept ..).trans (retryWaiting_kept _)
    · exact forcedBreak_kept ..
  · exact .refl s

theorem afterFreeing_kept (s : State) : PrintKept s (afterFreeing s) :=
  (retryWaiting_kept s).trans (forceIfDry_kept _)

theorem settleFrom_kept (n : Nat) (s : State) : PrintKept s (settleFrom n s) := by
  unfold settleFrom; split
  · exact afterFreeing_kept s
  · exact .refl s

theorem moveOn_kept (ch : ChannelId) (s : State) : PrintKept s (moveOn ch s) :=
  (tryMove_kept ..).trans (settleFrom_kept ..)

theorem endOp_kept (ch : ChannelId) (out : OpOutcome) (s : State) : PrintKept s (endOp ch out s) :=
  (complete_kept ..).trans (settleFrom_kept ..)

theorem joinCells_kept (ch : ChannelId) (s : State) : PrintKept s (joinCells ch s) :=
  PrintKept.trans (.of_rfl rfl) (forceIfDry_kept _)

theorem placeLineNow_kept (ch : ChannelId) (k : List Strike) (s : State) :
    PrintKept s (placeLineNow ch k s) := by
  unfold placeLineNow
  simp only
  split
  · exact (mergeLine_kept ..).trans (moveOn_kept ..)
  · exact joinCells_kept ..

theorem takeRunOut_kept (ch : ChannelId) (s : State) : PrintKept s (takeRunOut ch s) := by
  unfold takeRunOut
  simp only
  split
  · exact ((modCh_kept ..).trans (breakForm_kept ..)).trans (releaseSheet_kept ..)
  · exact (modCh_kept ..).trans (releaseSheet_kept ..)

theorem tryRunOut_kept (ch : ChannelId) (s : State) : PrintKept s (tryRunOut ch s) := by
  unfold tryRunOut; split
  · exact takeRunOut_kept ..
  · exact joinRoom_kept ..

theorem takeClaim_kept (x : Claim) (s : State) : PrintKept s (takeClaim x s) := by
  unfold takeClaim
  cases x
  · exact PrintKept.trans (.of_rfl rfl) (tryMove_kept ..)
  · exact PrintKept.trans (.of_rfl rfl) (takeRunOut_kept ..)

theorem offerClaims_kept (l : List Claim) (s : State) : PrintKept s (offerClaims l s) := by
  induction l generalizing s with
  | nil => exact .refl s
  | cons x rest ih =>
    unfold offerClaims
    split
    · exact (takeClaim_kept x s).trans (ih _)
    · exact ih s

theorem offerPlace_kept (s : State) : PrintKept s (offerPlace s) :=
  (offerClaims_kept ..).trans (settleFrom_kept ..)

/-! ### Taking lines and tapes -/

theorem endLine_kept (ch : ChannelId) (r : LineRec) (s : State) : PrintKept s (endLine ch r s) := by
  unfold endLine
  simp only
  split
  · exact (modCh_kept ..).trans (endOp_kept ..)
  · exact (((modCh_kept ..).trans (modCh_kept ..)).trans (setStage_kept ..)).trans
      (placeLineNow_kept ..)

theorem goOnLine_kept (ch : ChannelId) (r : LineRec) (s : State) : PathKept s (goOnLine ch r s) := by
  unfold goOnLine; split
  · exact (endLine_kept ..).toPathKept
  · exact (setStage_kept ..).toPathKept.trans (askPlaces_kept ..)

theorem beginLine_kept (ch : ChannelId) (vp : Bool) (s : State) : PathKept s (beginLine ch vp s) :=
  goOnLine_kept ..

theorem deliverLine_kept (ch : ChannelId) (vp : Bool) (r : LineRec) (d : Dest) (hi lo : Option Byte)
    (s : State) : PathKept s (deliverLine ch vp r d hi lo s) := by
  unfold deliverLine
  split
  · simp only
    split
    · exact goOnLine_kept ..
    · exact (modCh_kept ..).toPathKept.trans (goOnLine_kept ..)
  · exact (modCh_kept ..).toPathKept.trans (goOnLine_kept ..)
  · exact .refl s

theorem goOnTape_kept (ch : ChannelId) (r : TapeRec) (s : State) : PathKept s (goOnTape ch r s) := by
  unfold goOnTape
  split
  · split
    · exact ((setStage_kept ..).trans (moveOn_kept ..)).toPathKept
    · exact (setStage_kept ..).toPathKept.trans (askPlaces_kept ..)
  · exact (setStage_kept ..).toPathKept.trans (askPlaces_kept ..)

theorem fixTape_kept (ch : ChannelId) (v : Word) (r : TapeRec) (s : State) :
    PathKept s (fixTape ch v r s) := by
  unfold fixTape; split
  · exact goOnTape_kept ..
  · exact (endOp_kept ..).toPathKept

theorem beginTape_kept (ch : ChannelId) (s : State) : PathKept s (beginTape ch s) := by
  unfold beginTape
  simp only
  split
  · exact fixTape_kept ..
  · exact goOnTape_kept ..

theorem deliverTape_kept (ch : ChannelId) (r : TapeRec) (d : Dest) (hi lo : Option Byte)
    (s : State) : PathKept s (deliverTape ch r d hi lo s) := by
  unfold deliverTape
  split
  · simp only
    split
    · split
      · exact fixTape_kept ..
      · exact (endOp_kept ..).toPathKept
    · exact goOnTape_kept ..
  · exact .refl s

/-! ### GOs and ticks -/

theorem goClear_kept (ch : ChannelId) (s : State) : PrintKept s (goClear ch s) := by
  unfold goClear
  split
  · exact modCh_kept ..
  · exact .refl s
  · simp only
    split
    · exact modCh_kept ..
    · exact (modCh_kept ..).trans (requestTally_kept ..)

theorem goLoad_kept (ch : ChannelId) (ie : Bool) (s : State) : PathKept s (goLoad ch ie s) := by
  unfold goLoad
  split
  · exact (startOp_kept ..).toPathKept.trans (beginTape_kept ..)
  · exact .refl s
  · exact (modCh_kept ..).toPathKept

theorem goMove_kept (ch : ChannelId) (kind : OpKind) (vp : Bool) (count : Nat) (ie : Bool)
    (s : State) : PathKept s (goMove ch kind vp count ie s) := by
  unfold goMove
  split
  · split
    · simp only
      split
      · exact (startOp_kept ..).toPathKept.trans (beginLine_kept ..)
      · exact ((startOp_kept ..).trans (moveOn_kept ..)).toPathKept
    · exact (modCh_kept ..).toPathKept
  · exact .refl s
  · exact (modCh_kept ..).toPathKept

theorem takeGo_kept (ch : ChannelId) (w : Word) (s : State) : PathKept s (takeGo ch w s) := by
  unfold takeGo
  split
  · exact (goClear_kept ..).toPathKept
  · exact goLoad_kept ..
  · exact goMove_kept ..

theorem commandWrite_kept (ch : ChannelId) (w : BusWrite) (s : State) :
    PathKept s (commandWrite ch w s) := by
  unfold commandWrite
  simp only
  split
  · exact (modCh_kept ..).toPathKept.trans (takeGo_kept ..)
  · exact (modCh_kept ..).toPathKept

theorem tickRunOut_kept (ch : ChannelId) (s : State) : PrintKept s (tickRunOut ch s) := by
  unfold tickRunOut
  split
  · simp only
    split
    · exact (((modCh_kept ..).trans (modCh_kept ..)).trans (tryRunOut_kept ..)).trans
        (settleFrom_kept ..)
    · exact modCh_kept ..
  · exact .refl s

theorem tickSample_kept (ch : ChannelId) (s : State) : PathKept s (tickSample ch s) := by
  unfold tickSample
  simp only
  split
  · split
    · exact (modCh_kept ..).toPathKept.trans (takeGo_kept ..)
    · exact (modCh_kept ..).toPathKept
  · exact .refl s

theorem channelTick_kept (ch : ChannelId) (s : State) : PathKept s (channelTick ch s) := by
  unfold channelTick
  split
  · exact .refl s
  · exact (((modCh_kept ..).trans (tickRunOut_kept ..)).toPathKept).trans (tickSample_kept ..)

/-! ### The link -/

theorem setAttempts_kept (n : Nat) (s : State) : PrintKept s (setAttempts n s) := by
  unfold setAttempts; split <;> exact .of_rfl rfl

theorem failAttempt_kept (s : State) : PrintKept s (failAttempt s) := by
  unfold failAttempt
  split
  · exact .refl s
  · simp only
    split
    · exact (setAttempts_kept ..).trans (.of_rfl rfl)
    · exact (setAttempts_kept ..).trans (.of_rfl rfl)

theorem leaveQueue_kept (s : State) : PrintKept s (leaveQueue s) := by
  unfold leaveQueue
  split
  · exact .refl s
  · exact PrintKept.trans (PrintKept.trans (PrintKept.trans (PrintKept.trans (.of_rfl rfl)
      (offerPlace_kept _)) (.of_rfl rfl)) (afterFreeing_kept _)) (startSheet_kept _)

theorem acceptSheet_kept (sh : Sheet) (s : State) : PrintKept s (acceptSheet sh s) :=
  PrintKept.trans (.of_rfl rfl) (leaveQueue_kept _)

theorem rejectSheet_kept (sh : Sheet) (s : State) : PrintKept s (rejectSheet sh s) :=
  PrintKept.trans (.of_rfl rfl) (leaveQueue_kept _)

theorem takeReply_kept (k : ReplyKind) (n : Word) (s : State) : PrintKept s (takeReply k n s) := by
  unfold takeReply
  repeat' split
  all_goals first
    | exact acceptSheet_kept ..
    | exact rejectSheet_kept ..
    | exact failAttempt_kept ..
    | exact .of_rfl rfl

theorem takeLife_kept (s : State) : PrintKept s (takeLife s) := by
  unfold takeLife
  split
  · exact .of_rfl rfl
  · simp only
    split
    · exact PrintKept.trans (.of_rfl rfl) (startSheet_kept _)
    · exact .of_rfl rfl
  · exact .of_rfl rfl

theorem takeFrame_kept (k : ReplyKind) (p : List Byte) (s : State) :
    PrintKept s (takeFrame k p s) := by
  unfold takeFrame
  simp only
  split
  · exact takeLife_kept s
  · exact (takeLife_kept s).trans (takeReply_kept ..)

theorem receiveInFrame_kept (b : List Byte) (s : State) : PrintKept s (receiveInFrame b s) := by
  unfold receiveInFrame
  repeat' split
  all_goals first
    | exact .of_rfl rfl
    | exact PrintKept.trans (.of_rfl rfl) (takeFrame_kept ..)

theorem receiveByte_kept (s : State) (b : Byte) : PrintKept s (receiveByte s b) := by
  unfold receiveByte
  split
  · split <;> exact .of_rfl rfl
  · exact receiveInFrame_kept ..

theorem receive_kept (l : List Byte) (s : State) : PrintKept s (receive l s) := by
  unfold receive
  induction l generalizing s with
  | nil => exact .refl s
  | cons b rest ih => exact (receiveByte_kept s b).trans (ih _)

theorem sendRow_kept (s : State) : PrintKept s (sendRow s) := by
  unfold sendRow
  repeat' split
  all_goals exact .of_rfl rfl

theorem sendEnd_kept (s : State) : PrintKept s (sendEnd s) := by
  unfold sendEnd
  repeat' split
  all_goals exact .of_rfl rfl

theorem tickLink_kept (s : State) : PrintKept s (tickLink s) := by
  unfold tickLink
  repeat' split
  all_goals first
    | exact .of_rfl rfl
    | exact PrintKept.trans (.of_rfl rfl) (failAttempt_kept _)
    | exact PrintKept.trans (.of_rfl rfl) (resendSheet_kept _)

theorem startLink_kept (s : State) : PrintKept s (startLink s) := by
  unfold startLink
  split
  · exact (setAttempts_kept ..).trans (startSheet_kept _)
  · exact .refl s

/-! ### The setup unit and the memory path -/

/-- What the setup unit and a host write's report keep: the bus side, the panel and the queue. -/
structure HostKept (s t : State) : Prop where
  ownCycle : t.ownCycle = s.ownCycle
  presented : t.presented = s.presented
  hostReply : t.hostReply = s.hostReply
  memDrive : t.memDrive = s.memDrive
  panel : t.panel = s.panel
  pending : t.pending = s.pending

theorem HostKept.refl (s : State) : HostKept s s := ⟨rfl, rfl, rfl, rfl, rfl, rfl⟩

theorem HostKept.trans {s t u : State} (h : HostKept s t) (k : HostKept t u) : HostKept s u :=
  ⟨k.ownCycle.trans h.ownCycle, k.presented.trans h.presented, k.hostReply.trans h.hostReply,
    k.memDrive.trans h.memDrive, k.panel.trans h.panel, k.pending.trans h.pending⟩

theorem PathKept.host {s t : State} (h : PathKept s t) : HostKept s t :=
  ⟨h.ownCycle, h.presented, h.hostReply, h.memDrive, h.panel, h.pending⟩

theorem setResult_kept (c : ResultCode) (s : State) : HostKept s (setResult c s) :=
  ⟨rfl, rfl, rfl, rfl, rfl, rfl⟩

theorem applyChannel_kept (r : ApplyRec) (s : State) : HostKept s (applyChannel r s) := by
  unfold applyChannel
  repeat' split
  all_goals exact ⟨rfl, rfl, rfl, rfl, rfl, rfl⟩

theorem applyLayout_kept (r : ApplyRec) (s : State) : HostKept s (applyLayout r s) := by
  unfold applyLayout
  split
  · exact setResult_kept ..
  · split
    · exact setResult_kept ..
    · refine HostKept.trans (PathKept.host (PrintKept.toPathKept ?_)) (setResult_kept ..)
      refine PrintKept.trans ?_ (settleFrom_kept ..)
      refine PrintKept.trans (PrintKept.trans ?_ (modCh_kept ..)) (dropRunOut_kept ..)
      split
      · exact releaseSheet_kept ..
      · exact .refl s

theorem applyXlate_kept (r : ApplyRec) (s : State) : HostKept s (applyXlate r s) := by
  unfold applyXlate
  repeat' split
  all_goals exact ⟨rfl, rfl, rfl, rfl, rfl, rfl⟩

theorem applyGlyph_kept (r : ApplyRec) (s : State) : HostKept s (applyGlyph r s) := by
  unfold applyGlyph; split <;> exact ⟨rfl, rfl, rfl, rfl, rfl, rfl⟩

theorem applyLink_kept (r : ApplyRec) (s : State) : HostKept s (applyLink r s) := by
  unfold applyLink; split <;> exact ⟨rfl, rfl, rfl, rfl, rfl, rfl⟩

theorem applyQuery_kept (r : ApplyRec) (s : State) : HostKept s (applyQuery r s) := by
  unfold applyQuery; split <;> exact ⟨rfl, rfl, rfl, rfl, rfl, rfl⟩

theorem disposeForms_kept (ch : ChannelId) (s : State) : PrintKept s (disposeForms ch s) := by
  unfold disposeForms
  split
  · exact releaseSheet_kept ..
  · refine PrintKept.trans ?_ (releaseSheet_kept ..)
    split
    · exact (modCh_kept ..).trans (routeClose_kept ..)
    · exact modCh_kept ..

theorem unbindWindows_kept (ch : ChannelId) (s : State) : HostKept s (unbindWindows ch s) :=
  ⟨rfl, rfl, rfl, rfl, rfl, rfl⟩

theorem applyDisable_kept (r : ApplyRec) (s : State) : HostKept s (applyDisable r s) := by
  unfold applyDisable
  repeat' split
  all_goals first
    | exact setResult_kept ..
    | (refine HostKept.trans ?_ (setResult_kept ..)
       refine HostKept.trans ?_ (settleFrom_kept ..).toPathKept.host
       refine HostKept.trans ?_ (unbindWindows_kept ..)
       exact (((disposeForms_kept ..).trans (dropRunOut_kept ..)).trans (modCh_kept ..)).toPathKept.host)

theorem applyRecord_kept (r : ApplyRec) (s : State) : HostKept s (applyRecord r s) := by
  unfold applyRecord
  repeat' split
  all_goals first
    | exact setResult_kept ..
    | exact applyChannel_kept ..
    | exact applyLayout_kept ..
    | exact applyXlate_kept ..
    | exact applyGlyph_kept ..
    | exact applyLink_kept ..
    | exact applyDisable_kept ..
    | exact applyQuery_kept ..

theorem goOnApply_kept (r : ApplyRec) (s : State) : HostKept s (goOnApply r s) := by
  unfold goOnApply
  split
  · exact HostKept.trans (t := { s with setup := { s.setup with apply := none } })
      ⟨rfl, rfl, rfl, rfl, rfl, rfl⟩ (applyRecord_kept r _)
  · exact HostKept.trans
      (t := { s with setup := { s.setup with apply := some r, result := .pending } })
      ⟨rfl, rfl, rfl, rfl, rfl, rfl⟩ (askPlaces_kept _ _).host

theorem startApply_kept (s : State) : HostKept s (startApply s) := by
  unfold startApply
  split
  · exact .refl s
  · simp only
    split <;> exact goOnApply_kept ..

theorem deliverRecord_kept (i : Nat) (hi lo : Option Byte) (s : State) :
    HostKept s (deliverRecord i hi lo s) := by
  unfold deliverRecord
  split
  · exact .refl s
  · simp only
    split <;> exact goOnApply_kept ..

theorem setupWrite_kept (k : Nat) (s : State) : HostKept s (setupWrite k s) := by
  unfold setupWrite
  simp only
  split
  · exact HostKept.trans (t := { s with setup := { s.setup with answersPresent := false } })
      ⟨rfl, rfl, rfl, rfl, rfl, rfl⟩ (startApply_kept _)
  · exact ⟨rfl, rfl, rfl, rfl, rfl, rfl⟩

theorem presetTally_kept (ch : ChannelId) (w : BusWrite) (s : State) :
    HostKept s (presetTally ch w s) := by
  unfold presetTally
  simp only
  repeat' split
  all_goals exact ⟨rfl, rfl, rfl, rfl, rfl, rfl⟩

theorem reportWrite_kept (w : BusWrite) (s : State) : HostKept s (reportWrite w s) := by
  unfold reportWrite
  repeat' split
  all_goals first
    | exact (commandWrite_kept ..).host
    | exact presetTally_kept ..
    | exact setupWrite_kept ..
    | exact .refl s

theorem reportRead_kept (a : Addr) (ans : ReadAnswer) (s : State) :
    PrintKept s (reportRead a ans s) := by
  unfold reportRead
  repeat' split
  all_goals exact .of_rfl rfl

theorem writeTaken_kept (w : BusWrite) (ans : WriteAnswer) (s : State) :
    HostKept s (writeTaken w ans s) := by
  unfold writeTaken
  refine HostKept.trans ?_ (reportWrite_kept ..)
  unfold shadowWrite
  split <;> exact ⟨rfl, rfl, rfl, rfl, rfl, rfl⟩

theorem deliver_kept (req : Requester) (d : Dest) (hi lo : Option Byte) (s : State) :
    HostKept s (deliver req d hi lo s) := by
  unfold deliver
  repeat' split
  all_goals first
    | exact (deliverLine_kept ..).host
    | exact (deliverTape_kept ..).host
    | exact deliverRecord_kept ..
    | exact .refl s

/-- A host cycle that passes changes, of the bus side, its reply and what stands on the memory side. -/
theorem passCycle_kept (c : BusCycle) (ans : CycleAnswer) (s : State) :
    (passCycle c ans s).ownCycle = s.ownCycle ∧ (passCycle c ans s).presented = s.presented ∧
      (passCycle c ans s).panel = s.panel ∧ (passCycle c ans s).pending = s.pending := by
  cases c with
  | read a =>
    have h := (reportRead_kept a ans.read
      { giveMemory (.read a) s with
        hostReply := some ⟨some ((giveMemory (.read a) s).readReply a ans.read), none⟩ }).toPathKept.host
    exact ⟨h.ownCycle, h.presented, h.panel, h.pending⟩
  | write w =>
    have h := writeTaken_kept w ans.write
      { giveMemory (.write w) s with hostReply := some ⟨none, some ans.write⟩ }
    exact ⟨h.ownCycle, h.presented, h.panel, h.pending⟩
  | locked w =>
    have h := (reportRead_kept w.addr ans.read
      { giveMemory (.locked w) s with
        hostReply := some ⟨some ((giveMemory (.locked w) s).readReply w.addr ans.read),
          some ans.write⟩ }).toPathKept.host.trans (writeTaken_kept w ans.write _)
    exact ⟨h.ownCycle, h.presented, h.panel, h.pending⟩

end Sys2Proof.Machine
end

