-- ==== Sys2Proof/Laws/Memory.lean ====
section
/-! SUPPORT. The shadow store: a read after a write, and the canonical form kept by every operation. -/

namespace Sys2Proof.Machine

@[simp] theorem Memory.read_nil (a : Nat) : Memory.read [] a = none := rfl

theorem Memory.read_write (m : Memory) (a b : Nat) (v : Byte) :
    (m.write a v).read b = if a = b then some v else m.read b := by
  induction m with
  | nil => simp [Memory.write, Memory.read]
  | cons x rest ih =>
    obtain ⟨k, w⟩ := x
    simp only [Memory.write]
    split
    · simp [Memory.read]
    · split
      · subst_vars
        simp only [Memory.read]
        split <;> simp_all
      · simp only [Memory.read, ih]
        split <;> split <;> simp_all

@[simp] theorem Memory.read_write_same (m : Memory) (a : Nat) (v : Byte) :
    (m.write a v).read a = some v := by simp [Memory.read_write]

theorem Memory.read_write_other (m : Memory) {a b : Nat} (v : Byte) (h : a ≠ b) :
    (m.write a v).read b = m.read b := by simp [Memory.read_write, h]

/-- Reading a filtered store: the bytes kept read as before, the others are invalid. -/
theorem Memory.read_filter (m : Memory) (p : Nat → Bool) (b : Nat) :
    Memory.read (m.filter fun c => p c.1) b = if p b then m.read b else none := by
  induction m with
  | nil => simp
  | cons x rest ih =>
    obtain ⟨k, w⟩ := x
    simp only [List.filter_cons]
    by_cases hk : p k = true
    · simp only [hk, if_true, Memory.read, ih]
      by_cases hb : k = b
      · subst hb; simp [hk]
      · simp [hb]
    · simp only [hk, Memory.read]
      by_cases hb : k = b
      · subst hb; simp [ih, hk]
      · simp [hb, ih]

theorem Memory.read_erase (m : Memory) (a b : Nat) :
    (m.erase a).read b = if a = b then none else m.read b := by
  have := Memory.read_filter m (fun k => decide (k ≠ a)) b
  simp only [Memory.erase, this]
  by_cases h : a = b
  · subst h; simp
  · simp [h, Ne.symm h]

theorem Memory.read_put (m : Memory) (a b : Nat) (v : Option Byte) :
    (m.put a v).read b = if a = b then v else m.read b := by
  cases v with
  | none => simp [Memory.put, Memory.read_erase]
  | some x => simp [Memory.put, Memory.read_write]

/-- The words from a base read invalid after they are discarded, every other byte as before. -/
theorem Memory.read_eraseWords (m : Memory) (base : Addr) (n b : Nat) :
    (m.eraseWords base n).read b =
      if 2 * base.toNat ≤ b ∧ b < 2 * (base.toNat + n) then none else m.read b := by
  have := Memory.read_filter m
    (fun k => !(decide (2 * base.toNat ≤ k) && decide (k < 2 * (base.toNat + n)))) b
  simp only [Memory.eraseWords, this]
  by_cases h1 : 2 * base.toNat ≤ b <;> by_cases h2 : b < 2 * (base.toNat + n) <;> simp [h1, h2]

/-! ### The canonical form -/

theorem Memory.wf_nil : Memory.wf [] := List.Pairwise.nil

theorem Memory.wf_filter {m : Memory} (h : m.wf) (p : Host.Cell → Bool) : Memory.wf (m.filter p) :=
  List.Pairwise.filter p h

/-- The addresses a write lists are the old ones and the written one. -/
theorem Memory.mem_write {m : Memory} {a : Nat} {v : Byte} {x : Host.Cell}
    (h : x ∈ m.write a v) : x = (a, v) ∨ x ∈ m := by
  induction m with
  | nil => simpa [Memory.write] using h
  | cons y rest ih =>
    obtain ⟨k, w⟩ := y
    simp only [Memory.write] at h
    split at h
    · simpa using h
    · split at h
      · rcases List.mem_cons.1 h with h | h
        · exact .inl h
        · exact .inr (List.mem_cons_of_mem _ h)
      · rcases List.mem_cons.1 h with h | h
        · exact .inr (by simp [h])
        · rcases ih h with h | h
          · exact .inl h
          · exact .inr (List.mem_cons_of_mem _ h)

theorem Memory.wf_write {m : Memory} (h : m.wf) (a : Nat) (v : Byte) : (m.write a v).wf := by
  induction m with
  | nil => simp [Memory.write, Memory.wf]
  | cons y rest ih =>
    obtain ⟨k, w⟩ := y
    obtain ⟨hk, hr⟩ := List.pairwise_cons.1 h
    simp only [Memory.write]
    split
    · rename_i hlt
      refine List.pairwise_cons.2 ⟨fun x hx => ?_, h⟩
      rcases List.mem_cons.1 hx with hx | hx
      · simpa [hx] using hlt
      · exact Nat.lt_trans hlt (hk x hx)
    · split
      · subst_vars
        exact List.pairwise_cons.2 ⟨hk, hr⟩
      · refine List.pairwise_cons.2 ⟨fun x hx => ?_, ih hr⟩
        rcases Memory.mem_write hx with hx | hx
        · subst hx; simp only; omega
        · exact hk x hx

theorem Memory.wf_erase {m : Memory} (h : m.wf) (a : Nat) : (m.erase a).wf :=
  Memory.wf_filter h _

theorem Memory.wf_eraseWords {m : Memory} (h : m.wf) (base : Addr) (n : Nat) :
    (m.eraseWords base n).wf := Memory.wf_filter h _

theorem Memory.wf_put {m : Memory} (h : m.wf) (a : Nat) (v : Option Byte) : (m.put a v).wf := by
  cases v with
  | none => exact Memory.wf_erase h a
  | some b => exact Memory.wf_write h a b

theorem Memory.wf_putWord {m : Memory} (h : m.wf) (a : Addr) (hi lo : Option Byte) :
    (m.putWord a hi lo).wf := Memory.wf_put (Memory.wf_put h _ _) _ _

theorem Memory.wf_eraseWindows {m : Memory} (h : m.wf) (ws : List Window) :
    (m.eraseWindows ws).wf := by
  unfold Memory.eraseWindows
  induction ws generalizing m with
  | nil => exact h
  | cons w rest ih => exact ih (Memory.wf_eraseWords h _ _)

theorem wf_shadowHostWrite {m : Memory} (h : m.wf) (w : BusWrite) (ans : WriteAnswer) :
    (shadowHostWrite w ans m).wf := by
  unfold shadowHostWrite
  simp only
  split <;> split <;> (try split) <;> first
    | exact h
    | exact Memory.wf_put h _ _
    | exact Memory.wf_put (Memory.wf_put h _ _) _ _

theorem wf_shadowOwn {s : State} (h : s.shadow.wf) (a : Addr) (hi lo : Option Byte) :
    (s.shadowOwn a hi lo).shadow.wf := by
  unfold State.shadowOwn
  split
  · exact Memory.wf_putWord h a hi lo
  · exact h

/-- The store right after power-on is in its canonical form. -/
theorem reset_shadow_wf : State.reset.shadow.wf := Memory.wf_nil

/-! ### What one host write does to the shadow (R125) -/

/-- A byte of the shadow after a host write: a named byte takes its outcome, every other byte is kept. -/
theorem read_shadowHostWrite (w : BusWrite) (ans : WriteAnswer) (m : Memory) (b : Nat) :
    (shadowHostWrite w ans m).read b =
      if w.en.lo ∧ loKey w.addr = b then
        (match ans with | .accepted => w.data.lo.taken | .noResponse => none)
      else if w.en.hi ∧ hiKey w.addr = b then
        (match ans with | .accepted => w.data.hi.taken | .noResponse => none)
      else m.read b := by
  unfold shadowHostWrite
  cases ans <;> cases hhi : w.en.hi <;> cases hlo : w.en.lo <;>
    simp [Memory.read_put]

theorem hiKey_ne_loKey (a b : Addr) : hiKey a ≠ loKey b := by
  unfold hiKey loKey; omega

theorem hiKey_inj {a b : Addr} : hiKey a = hiKey b ↔ a = b := by
  unfold hiKey
  constructor
  · intro h; exact BitVec.eq_of_toNat_eq (by omega)
  · rintro rfl; rfl

theorem loKey_inj {a b : Addr} : loKey a = loKey b ↔ a = b := by
  unfold loKey
  constructor
  · intro h; exact BitVec.eq_of_toNat_eq (by omega)
  · rintro rfl; rfl

end Sys2Proof.Machine
end

