-- ==== Sys2Proof/Laws/Operations.lean ====
section
/-! SUPPORT. What the shared printing operations answer: a walk over the tape, a completion, the entry of a
sheet, the wait for cells. Cited in place of unfolding them. -/

namespace Sys2Proof.Machine

theorem modCh_congr {s : State} {i : ChannelId} {f g : Channel → Channel} (h : f (s.ch i) = g (s.ch i)) :
    s.modCh i f = s.modCh i g := by
  unfold State.modCh
  rw [h]

/-! ### Words of the shadow -/

/-- A word is its two bytes. -/
theorem wordOf_bytes (v : Word) : wordOf (hiByte v) (loByte v) = v := by
  unfold wordOf hiByte loByte
  ext i hi
  rw [BitVec.getElem_append]
  split
  · simp [BitVec.getLsbD_eq_getElem hi]
  · have h : 8 + (i - 8) = i := by omega
    simp [h, BitVec.getLsbD_eq_getElem hi]

/-- A copy of a word whose bytes are both valid is complete and has its value. -/
theorem copyWord_held {s : State} {a : Addr} {v : Word} (h : s.shadow.read (hiKey a) = some (hiByte v))
    (l : s.shadow.read (loKey a) = some (loByte v)) :
    (s.copyWord a).value = some v ∧ (s.copyWord a).complete = true := by
  unfold State.copyWord TakenWord.value TakenWord.complete
  simp only [h, l, wordOf_bytes]
  simp

/-! ### The walk (R48) -/

theorem any_range_succ (f : Nat → Bool) (n : Nat) :
    (List.range (n + 1)).any f = (f 0 || (List.range n).any fun j => f (j + 1)) := by
  rw [List.range_succ_eq_map, List.any_cons, List.any_map]
  rfl

theorem Walk.run_add (t : Tape) (a b : Nat) (w : Walk) :
    Walk.run t (a + b) w = Walk.run t b (Walk.run t a w) := by
  induction a generalizing w with
  | zero => simp [Walk.run]
  | succ a ih =>
    rw [Nat.succ_add]
    exact ih _

/-- A walk that stays on its form adds the marks of the lines it reaches. -/
theorem Walk.run_stay (t : Tape) (m : Nat) (w : Walk) (h : w.pos + m < t.length) :
    Walk.run t m w =
      ⟨w.pos + m, w.overflow || (List.range m).any fun j => t.punched 12 (w.pos + 1 + j),
        w.ch9 || (List.range m).any fun j => t.punched 9 (w.pos + 1 + j), w.wrapped⟩ := by
  induction m generalizing w with
  | zero => simp [Walk.run]
  | succ m ih =>
    have hs : w.step t = ⟨w.pos + 1, w.overflow || t.punched 12 (w.pos + 1),
        w.ch9 || t.punched 9 (w.pos + 1), w.wrapped⟩ := by
      unfold Walk.step
      rw [if_pos (by omega)]
    unfold Walk.run
    rw [hs, ih _ (by simp only; omega)]
    simp only [any_range_succ, Bool.or_assoc, Nat.add_comm, Nat.add_left_comm]

/-- A walk that passes the form's end once keeps only the marks of the lines reached from line 0 on. -/
theorem Walk.run_wrap (t : Tape) (m : Nat) (w : Walk) (h1 : w.pos < t.length)
    (h2 : t.length ≤ w.pos + m) (h3 : w.pos + m < 2 * t.length) :
    Walk.run t m w =
      ⟨w.pos + m - t.length, (List.range (w.pos + m - t.length + 1)).any fun j => t.punched 12 j,
        (List.range (w.pos + m - t.length + 1)).any fun j => t.punched 9 j, true⟩ := by
  have hm : m = (t.length - 1 - w.pos) + (1 + (w.pos + m - t.length)) := by omega
  have hs : ∀ x : Walk, x.pos = t.length - 1 →
      Walk.run t 1 x = ⟨0, t.punched 12 0, t.punched 9 0, true⟩ := by
    intro x hx
    have hn : ¬ (x.pos + 1 < t.length) := by omega
    simp [Walk.run, Walk.step, hn]
  conv_lhs => rw [hm]
  rw [Walk.run_add, Walk.run_stay t _ w (by omega), Walk.run_add, hs _ (by simp only; omega),
    Walk.run_stay t _ _ (by simp only; omega)]
  simp only [any_range_succ, Nat.zero_add, Nat.add_comm 1]

/-! ### Cells and the wait for them (R68 to R70) -/

theorem settleFrom_same {n : Nat} {s : State} (h : s.freeCells ≤ n) : settleFrom n s = s := by
  unfold settleFrom
  rw [if_neg (by omega)]

theorem afterFreeing_none {s : State} (h : s.cellWait = []) : afterFreeing s = s := by
  unfold afterFreeing retryWaiting
  rw [h]
  simp only [retryLines]
  unfold forceIfDry
  rw [h]

theorem settleFrom_none {n : Nat} {s : State} (h : s.cellWait = []) : settleFrom n s = s := by
  unfold settleFrom
  split
  · exact afterFreeing_none h
  · rfl

/-! ### Sheets (R86, R92, R97 to R99) -/

theorem startSheet_cellWait (s : State) : (startSheet s).cellWait = s.cellWait := by
  unfold startSheet
  repeat' split
  all_goals rfl

theorem startSheet_modCh (i : ChannelId) (f : Channel → Channel) (s : State) :
    startSheet (s.modCh i f) = (startSheet s).modCh i f := by
  unfold startSheet
  simp only [State.modCh_queue]
  cases s.queue with
  | nil => cases i <;> rfl
  | cons sh r =>
    simp only
    split <;> cases i <;> rfl

theorem enterQueue_cellWait (ch : ChannelId) (f0 : Form) (f1 : Option Form) (s : State) :
    (enterQueue ch f0 f1 s).cellWait = s.cellWait := by
  unfold enterQueue
  simp only
  split
  · rw [startSheet_cellWait]
    rfl
  · rfl

theorem enterQueue_chans (ch : ChannelId) (f0 : Form) (f1 : Option Form) (s : State) :
    (enterQueue ch f0 f1 s).chans =
      (s.modCh ch fun c => { c with clipped := satAdd c.clipped (entryClip s ch f0 f1) }).chans := by
  unfold enterQueue
  simp only
  split
  · unfold startSheet
    repeat' split
    all_goals rfl
  · rfl

theorem routeClose_cellWait (ch : ChannelId) (f : Form) (s : State) :
    (routeClose ch f s).cellWait = s.cellWait := by
  unfold routeClose
  split
  · split
    · rfl
    · rw [enterQueue_cellWait]
      rfl
  · rw [enterQueue_cellWait]

/-! ### Completion (R14) -/

/-- A completion with no panel action pending, of an operation that placed no line. -/
theorem complete_quiet {ch : ChannelId} {out : OpOutcome} {op : Op} {s : State}
    (h1 : (s.ch ch).state = .busy op) (h2 : (s.ch ch).pendStop = false)
    (h3 : (s.ch ch).pendEject = false) (h4 : (op.kind.isPrint && op.linePlaced) = false) :
    complete ch out s = s.modCh ch fun c => c.completed op out := by
  unfold complete
  rw [h1]
  simp only [h4, Bool.false_eq_true, if_false]
  split
  · rfl
  · unfold applyPending settleStop
    simp only [State.ch_modCh_same, Channel.completed, h3, Bool.false_and, Bool.false_eq_true, if_false,
      State.modCh_modCh]
    apply modCh_congr
    rename_i hh
    simp [h2, h3, h4, hh]

end Sys2Proof.Machine
end

