-- ==== Sys2Proof/WellFormed.lean ====
section
/-! DEFINITION. Which commands can come about at all, as far as their operands alone decide it.
Widths are in the types; what is left is checked here. The machine gives every command a meaning,
well formed or not. -/

namespace Sys2Proof

/-- A host write carries either byte or both (00_scope 0.5). -/
def BusWrite.wellFormed (w : BusWrite) : Bool := w.en.hi || w.en.lo

/-- Every write in a cycle names a byte. -/
def BusCycle.wellFormed : BusCycle → Bool
  | .read _ => true
  | .write w => w.wellFormed
  | .locked w => w.wellFormed

/-- HOST_CYCLE_PASS_THROUGH is the row of READs and WRITEs; a locked cycle has its own row. -/
def BusCycle.unlocked : BusCycle → Bool
  | .locked _ => false
  | _ => true

/-- The checks on a command's operands: a write names at least one byte, the pass-through cycle is not
locked, received bytes are not none, and a host bus reset names no controller twice. -/
def WellFormed : Instr → Bool
  | .powerOn _ => true
  | .hostBusReset order => decide order.Nodup
  | .hostCyclePassThrough cycle _ => cycle.wellFormed && cycle.unlocked
  | .hostWindowWrite w _ => w.wellFormed
  | .lockedReadModifyWrite w _ => w.wellFormed
  | .statusRead _ _ => true
  | .tallyPreset w _ => w.wellFormed
  | .clear w _ => w.wellFormed
  | .loadTape w _ => w.wellFormed
  | .printThenSpace w _ => w.wellFormed
  | .printThenSkip w _ => w.wellFormed
  | .spaceOnly w _ => w.wellFormed
  | .skipOnly w _ => w.wellFormed
  | .cellWaitRetry => true
  | .roomWaitMove => true
  | .runOut _ => true
  | .roomWaitRunOut => true
  | .stop => true
  | .start => true
  | .eject => true
  | .selectorChange _ => true
  | .channelTick _ => true
  | .linkTick => true
  | .linkLoss => true
  | .replyTimerExpiry => true
  | .backoffEnd => true
  | .pulse => true
  | .accept _ => true
  | .reject _ _ => true
  | .busy _ => true
  | .badFrame bytes => !bytes.isEmpty
  | .row => true
  | .sheetEnd => true
  | .ownCycleStart => true
  | .fetchPlaceGrant => true
  | .fetchAnswer _ => true
  | .tallyWrite _ => true
  | .heldHostCyclePass _ => true
  | .pending w _ => w.wellFormed
  | .badKind w _ => w.wellFormed
  | .channel w _ => w.wellFormed
  | .layout w _ => w.wellFormed
  | .xlate w _ => w.wellFormed
  | .glyph w _ => w.wellFormed
  | .link w _ => w.wellFormed
  | .disable w _ => w.wellFormed
  | .query w _ => w.wellFormed
  | .switchRelease _ => true

end Sys2Proof
end

