-- ==== Sys2Proof/Tests/Slice0.lean ====
section
/-! SUPPORT. Tests: the smoke tests of WellFormed, worked examples of spec/, and for every statement that
has hypotheses a witness, a concrete state and operands that meet them. -/

namespace Sys2Proof.Tests

open Sys2Proof Sys2Proof.Machine Sys2Proof.Claims

/-! ### WellFormed refuses -/

/-- A write with neither byte enabled. -/
def noByte : BusWrite := ⟨7, ⟨false, false⟩, freshWord 0⟩

theorem test_wf_empty_write : WellFormed (.hostWindowWrite noByte .accepted) = false := by decide

theorem test_wf_empty_command : WellFormed (.clear noByte .accepted) = false := by decide

theorem test_wf_empty_locked :
    WellFormed (.lockedReadModifyWrite noByte ⟨.noResponse, .accepted⟩) = false := by decide

theorem test_wf_locked_pass :
    WellFormed (.hostCyclePassThrough (.locked ⟨7, ⟨true, true⟩, freshWord 0⟩)
      ⟨.noResponse, .accepted⟩) = false := by decide

theorem test_wf_no_bytes : WellFormed (.badFrame []) = false := by decide

theorem test_wf_reset_twice : WellFormed (.hostBusReset [.c1, .c2, .c1]) = false := by decide

theorem test_wf_accepts :
    WellFormed (.clear ⟨7, ⟨true, false⟩, freshWord 0x8800⟩ .accepted) = true := by decide

/-! ### States for the tests -/

/-- The state after a command that answers next. -/
def after (i : Instr) (s : State) : State :=
  match exec i s with
  | .next t => t
  | _ => s

/-- A 12-line tape: tape channel 1 on lines 2 and 5, 9 on line 7, 12 on line 10. -/
def tape : Tape := ⟨[0, 0, 1, 0, 0, 1, 0, 0x100, 0, 0, 0x800, 0]⟩

/-- A carriage at line 4 with an open form that holds one cell, at line 4, column 1. -/
def paper : Paper := ⟨tape, 4, ⟨12, 0, [⟨4, [⟨1, [7], none⟩]⟩]⟩⟩

/-- A carriage at line 0 with an empty form. -/
def blank : Paper := ⟨tape, 0, ⟨12, 0, []⟩⟩

/-- A bound channel in IDLE. -/
def idle : Channel := { Channel.powerOn with state := .idle, paper := some paper }

/-- Channel 0 bound at 1000, 2000 and 3000, and one cell of the pool in its form. -/
def base : State :=
  { State.reset with
    windows := [⟨65504, .setup⟩, ⟨1000, .control .c0⟩, ⟨2000, .pages .c0⟩, ⟨3000, .tape .c0⟩]
    chans := { State.reset.chans with ch0 := idle }
    freeCells := 24575 }

/-- The base state with another channel 0. -/
def withCh (c : Channel) : State := { base with chans := { base.chans with ch0 := c } }

/-- A whole-word write with good parity. -/
def put (a : Addr) (v : Word) : BusWrite := ⟨a, ⟨true, true⟩, freshWord v⟩

/-- A write to channel 0's command word. -/
def cmd (v : Word) : BusWrite := put 1000 v

/-- The valid shadow bytes of a run of words. -/
def shadowOf (a : Nat) : List Word → Memory
  | [] => []
  | v :: rest => (2 * a, hiByte v) :: (2 * a + 1, loByte v) :: shadowOf (a + 1) rest

/-- A sheet of channel 0 with one cell. -/
def sheet (n : Word) : Sheet :=
  { number := n, channel := .c0, geo := Layout.powerOn.geo
    slot0 := ⟨12, 0, [⟨4, [⟨1, [7], some (60, 400)⟩]⟩]⟩
    slot1 := none, clipCount := 0, attempts := 0 }

/-- The base state with n sheets in the queue. -/
def queued (n : Nat) (s : State) : State :=
  { s with queue := (List.range n).map fun i => sheet (BitVec.ofNat 16 i) }

/-! ### Worked examples of the spec -/

/-- 07 R122: straps 3 put the setup window at 65,536 x 4 - 32. -/
theorem test_setup_base : (setupBase 3).toNat = 262112 := by decide

/-- 10.6: the CRC of a PULSE frame is 0x4A5A, after 0x20 it is 0xC592. -/
theorem test_crc_pulse : crc16 [0x20] = 0xC592 ∧ crc16 [0x20, 0, 0] = 0x4A5A := by decide +kernel

/-- 10.6: a whole PULSE frame. -/
theorem test_pulse_frame :
    frameBytes ReplyKind.pulse.code [] = [0x55, 0x55, 0x55, 0x55, 0xC3, 0x20, 0, 0, 0x4A, 0x5A] := by
  decide +kernel

/-- The short sheet of 10.6: sheet 302 of channel 1. -/
def shortSheet : Sheet :=
  { sheet 302 with
    channel := .c1
    slot0 := ⟨12, 0, [⟨4, [⟨10, [18], some (600, 400)⟩, ⟨11, [12, 12, 12], some (660, 400)⟩]⟩]⟩ }

/-- 10.6: the payload of the short sheet's SHEET-OPEN. -/
theorem test_open_payload :
    ((sheetOpenFrame shortSheet).drop 8).take 8 = [0x01, 0x2E, 0x01, 0x19, 0xC8, 0x13, 0xEC, 0x01] := by
  decide

/-- 10.6: the payload of the short sheet's ROW. -/
theorem test_row_payload :
    (shortSheet.rows.map fun l =>
      ((rowFrame SetupUnit.powerOn.glyphCodes shortSheet l).drop 6).take 21) =
      [[0x00, 0x13, 0x01, 0x2E, 0x01, 0x90, 0x02, 0x02, 0x58, 0x01, 0x00, 0x12, 0x02, 0x94, 0x03, 0x00,
        0x0C, 0x00, 0x0C, 0x00, 0x0C]] := by decide

/-- 10.6: the payload of the short sheet's SHEET-END. -/
theorem test_end_payload :
    ((sheetEndFrame shortSheet).drop 8).take 6 = [0x01, 0x2E, 0x00, 0x02, 0x00, 0x00] := by decide

/-- 05 section 5.7: x of columns 0, 65, 131 and y of lines 64, 65 at S = 2,979. -/
theorem test_placement_galley :
    let g : Geometry := ⟨60, 100, 2979, false, 150, 120, 0, 0, 6000, 5000⟩
    [0, 65, 131].map (g.cellX false) = [150, 2986, 5867] ∧
      [64, 65].map (g.cellY false) = [4775, 4847] := by decide

/-- 05 section 5.8: the halfway case goes up, and line 65 of slot 1 is clipped at y = H. -/
theorem test_placement_half :
    [1, 2].map (fun c => scaled c 61 2048) = [31, 61] ∧
      (⟨60, 100, 2048, true, 300, 50, 300, 3350, 5100, 6600⟩ : Geometry).onSheet true 65 0 = false ∧
      (⟨60, 100, 2048, true, 300, 50, 300, 3350, 5100, 6600⟩ : Geometry).onSheet true 64 79 = true := by
  decide

/-- 10.2: the typical status bytes. -/
theorem test_status_bytes :
    let busy : ChState := .busy ejectOp
    let c := { Channel.powerOn with state := .idle }
    c.statusByte = 0x80 ∧ { c with state := busy }.statusByte = 0xC0 ∧
      { c with state := busy, stall := 300 }.statusByte = 0x40 ∧ { c with done := true }.statusByte = 0x81 ∧
      { c with state := .stopped }.statusByte = 0x00 ∧
      { c with state := .halted, formStop := true, done := true }.statusByte = 0x11 := by decide

/-- The 66-line tape of 03 section 3.10. -/
def listing : Tape :=
  ⟨List.replicate 2 0 ++ [1] ++ List.replicate 54 0 ++ [0x100] ++ List.replicate 2 0 ++ [0x800] ++
    List.replicate 5 0⟩

/-- 03 section 3.10: the skips of the third and fifth command, and the runaway skip of the sixth. -/
theorem test_skip_steps :
    skipSteps listing 1 61 = some 7 ∧ skipSteps listing 9 57 = some 66 ∧ skipSteps listing 5 57 = none := by
  decide

/-- 03 section 3.10: print then space 2 from line 56 sets CH9, space 3 then sets OVERFLOW. -/
theorem test_walk_space :
    Walk.run listing 2 ⟨56, false, false, false⟩ = ⟨58, false, true, false⟩ ∧
      Walk.run listing 3 ⟨58, false, true, false⟩ = ⟨61, true, true, false⟩ := by decide

/-- 03 section 3.10: the third command's wrap clears both marks, the fifth's full-form advance ends with
CH9. -/
theorem test_walk_wrap :
    Walk.run listing 7 ⟨61, true, true, false⟩ = ⟨2, false, false, true⟩ ∧
      Walk.run listing 66 ⟨57, false, true, false⟩ = ⟨57, false, true, true⟩ := by
  decide +kernel

/-- 10.1: the fields of a command word; a count field of 0110 spaces 2 (R161). -/
theorem test_decode_go :
    decodeGo 0xE006 = .move .printSpace true 2 true ∧ decodeGo 0x80CD = .move .skipOnly false 13 false ∧
      decodeGo 0x9800 = .clear := by decide

/-! ### Witnesses: states and operands that meet the hypotheses of each statement -/

theorem no_fetch {s : State} {a : Addr} (h : s.ownQueue = []) : ¬ FetchWaits a s := by
  rintro ⟨_, _, hm, _⟩
  simp [h] at hm

theorem passes {s : State} (c : BusCycle) (h1 : s.ownCycle = none) (h2 : s.ownQueue = [])
    (h3 : s.presented = none) : Passes c s :=
  ⟨⟨h1, .inl h2, fun _ => no_fetch h2⟩, h3⟩

theorem witness_StepRunsFront : State.reset.pending = [] := rfl

/-- Addresses just below and just above the control block. -/
theorem witness_PassUnwindowed :
    base.ownCycle = none ∧ base.ownQueue = [] ∧ base.presented = none ∧
      (∀ v ∈ base.windows, v.covers (cycleAddr (.read 999)) = false) ∧
      (∀ v ∈ base.windows, v.covers (cycleAddr (.read 1004)) = false) := by decide

/-- The first and the last word of the windows that a write only shadows, and the setup words next to the
apply word. -/
theorem witness_WindowWrite :
    Passes (.write (put 2000 1)) base ∧ base.lookup 2000 = some (.pages .c0, 0) ∧
      base.lookup 2159 = some (.pages .c0, 159) ∧ base.lookup 3192 = some (.tape .c0, 192) ∧
      base.lookup 1001 = some (.control .c0, 1) ∧ base.lookup 1002 = some (.control .c0, 2) ∧
      base.lookup 65521 = some (.setup, 17) ∧ base.lookup 65523 = some (.setup, 19) := by
  refine ⟨passes _ rfl rfl rfl, ?_⟩
  decide

theorem command (v : Word) : CommandWrite (cmd v) .c0 base :=
  ⟨passes _ rfl rfl rfl, by show base.lookup 1000 = _; decide⟩

theorem witness_CommandWriteNoGo :
    CommandWrite (cmd 0x7FFF) .c0 base ∧ ¬ MakesGo (cmd 0x7FFF) (base.ch .c0) := by
  refine ⟨command _, ?_⟩
  unfold MakesGo
  decide

/-- In EDGE a merged value that already had GO. -/
theorem witness_CommandWriteNoGo_edge :
    ¬ MakesGo (cmd 0x8000) { idle with goMode := .edge, merged := 0x8000 } := by
  unfold MakesGo
  decide

theorem witness_HeldCycleWaits :
    let f : OwnEntry := .fetch .setup ⟨2000, .record 1⟩
    base.presented = none ∧ ({ base with ownCycle := some f } : State).ownCycle ≠ none ∧
      (({ base with ownQueue := [f], passedOver := 32 } : State).ownQueue ≠ [] ∧
        32 ≤ ({ base with ownQueue := [f], passedOver := 32 } : State).passedOver) ∧
      (cycleWrites (.write (put 2000 1)) = true ∧
        (∃ v ∈ base.windows, v.covers (cycleAddr (.write (put 2000 1))) = true) ∧
        FetchWaits (cycleAddr (.write (put 2000 1))) { base with ownQueue := [f] }) ∧
      ({ base with presented := some (.read 1) } : State).presented = some (.read 1) := by
  refine ⟨rfl, by decide, by decide, ⟨rfl, by decide, _, _, .head _, rfl⟩, rfl⟩

theorem witness_HeldCyclePasses :
    let s : State := { base with presented := some (.write (put 2000 1)) }
    s.presented = some (.write (put 2000 1)) ∧ Unheld (.write (put 2000 1)) s ∧
      s.lookup 2000 = some (.pages .c0, 0) ∧
      ({ s with ownQueue := [.tally .c0 0 0], passedOver := 32 } : State).ownQueue ≠ [] := by
  exact ⟨rfl, ⟨rfl, .inl rfl, fun _ => no_fetch rfl⟩, by decide, by decide⟩

/-- A write of a window's word whose FETCH waits. -/
theorem witness_HeldCyclePasses_hold :
    let w := put 2000 1
    let s : State := { base with
      presented := some (.write w), ownQueue := [.fetch (.operation .c0) ⟨2000, .page 0⟩] }
    s.presented = some (.write w) ∧ cycleWrites (.write w) = true ∧
      (∃ v ∈ s.windows, v.covers (cycleAddr (.write w)) = true) ∧ FetchWaits (cycleAddr (.write w)) s :=
  ⟨rfl, rfl, ⟨⟨2000, .pages .c0⟩, by decide, by decide⟩, ⟨_, _, .head _, rfl⟩⟩

theorem witness_StatusByte :
    Passes (.read 1001) base ∧ base.lookup 1001 = some (.control .c0, 1) :=
  ⟨passes _ rfl rfl rfl, by decide⟩

theorem witness_StatusRead :
    Passes (.read 1001) base ∧ base.lookup 1001 = some (.control .c0, 1) ∧
      (freshWord 7).hi.par = oddParityBit (freshWord 7).hi.val ∧
      (badByte 7).par ≠ oddParityBit (badByte 7).val :=
  ⟨passes _ rfl rfl rfl, by decide, by decide, by decide⟩

/-- The command word, the result word, the first and the last answer word, and the unforced words beside
them. -/
theorem witness_ForcedReads :
    Passes (.read 1000) base ∧ base.lookup 1000 = some (.control .c0, 0) ∧
      base.lookup 65523 = some (.setup, 19) ∧
      ({ base.setup with answersPresent := true } : SetupUnit).answersPresent = true ∧
      base.lookup 65506 = some (.setup, 0 + 2) ∧ base.lookup 65513 = some (.setup, 7 + 2) ∧
      base.lookup 65505 = some (.setup, 1) ∧ base.lookup 65514 = some (.setup, 10) :=
  ⟨passes _ rfl rfl rfl, by decide⟩

theorem witness_LockedCycle :
    Passes (.locked (put 1001 5)) base ∧ base.lookup (put 1001 5).addr = some (.control .c0, 1) ∧
      (freshWord 9).hi.par = oddParityBit (freshWord 9).hi.val ∧
      base.lookup (put 2000 5).addr = some (.pages .c0, 0) :=
  ⟨passes _ rfl rfl rfl, by decide, by decide, by decide⟩

theorem witness_TallyPreset :
    Passes (.write (put 1003 5)) base ∧ base.lookup (put 1003 5).addr = some (.control .c0, 3) ∧
      (put 1003 5).en.hi = true ∧ (put 1003 5).en.lo = true ∧
      (⟨1003, ⟨true, false⟩, freshWord 5⟩ : BusWrite).en.hi ≠
        (⟨1003, ⟨true, false⟩, freshWord 5⟩ : BusWrite).en.lo :=
  ⟨passes _ rfl rfl rfl, by decide, rfl, rfl, by decide⟩

/-- A GO bit written in STROBE. -/
theorem strobe (v : Word) (c : Channel) (h : c.goMode = .strobe)
    (hv : (newCommand (cmd v) c).getLsbD 15 = true) : MakesGo (cmd v) c := .inl ⟨h, hv⟩

/-- A command write to a state with the base state's windows and a free path. -/
theorem commandAt (v : Word) (s : State) (hw : s.windows = base.windows) (h1 : s.ownCycle = none)
    (h2 : s.ownQueue = []) (h3 : s.presented = none) : CommandWrite (cmd v) .c0 s :=
  ⟨passes _ h1 h2 h3, by
    have h : base.lookup 1000 = some (.control .c0, 0) := by decide
    unfold State.lookup State.findWindow at h ⊢
    rw [hw]
    exact h⟩

theorem witness_ClearTaken :
    ∀ st ∈ [ChState.idle, .stopped, .halted],
      let s := withCh { idle with state := st, tally := 3 }
      CommandWrite (cmd 0x8800) .c0 s ∧ MakesGo (cmd 0x8800) (s.ch .c0) ∧
        (newCommand (cmd 0x8800) (s.ch .c0)).getLsbD 11 = true ∧ (s.ch .c0).state = st := by
  intro st hst
  simp only [List.mem_cons, List.not_mem_nil, or_false] at hst
  rcases hst with rfl | rfl | rfl <;>
    exact ⟨commandAt _ _ rfl rfl rfl rfl, strobe _ _ rfl (by decide), by decide, rfl⟩

/-- A CLEAR in BUSY, a LOAD-TAPE in STOPPED, a skip to tape channel 0, a skip to tape channel 13. -/
theorem witness_GoRefused :
    let s1 := withCh { idle with state := .busy ejectOp }
    let s2 := withCh { idle with state := .stopped }
    (CommandWrite (cmd 0x8800) .c0 s1 ∧ MakesGo (cmd 0x8800) (s1.ch .c0) ∧
      (s1.ch .c0).state = .busy ejectOp ∧ (newCommand (cmd 0x8800) (s1.ch .c0)).getLsbD 11 = true) ∧
    (CommandWrite (cmd 0x9000) .c0 s2 ∧ MakesGo (cmd 0x9000) (s2.ch .c0) ∧ (s2.ch .c0).state = .stopped ∧
      (newCommand (cmd 0x9000) (s2.ch .c0)).getLsbD 12 = true) ∧
    (CommandWrite (cmd 0x8040) .c0 base ∧ MakesGo (cmd 0x8040) (base.ch .c0) ∧
      (base.ch .c0).state ≠ .offline ∧ (newCommand (cmd 0x8040) (base.ch .c0)).toNat % 16 = 0) ∧
    12 < (newCommand (cmd 0x80CD) (base.ch .c0)).toNat % 16 := by
  refine ⟨⟨commandAt _ _ rfl rfl rfl rfl, strobe _ _ rfl (by decide), rfl, by decide⟩,
    ⟨commandAt _ _ rfl rfl rfl rfl, strobe _ _ rfl (by decide), rfl, by decide⟩,
    ⟨command _, strobe _ _ rfl (by decide), by decide, by decide⟩, by decide⟩

/-- A quiet GO in a state whose channel 0 is IDLE in STROBE with no panel action pending. -/
theorem quiet (v : Word) (s : State) (hw : s.windows = base.windows) (h1 : s.ownCycle = none)
    (h2 : s.ownQueue = []) (h3 : s.presented = none) (hg : (s.ch .c0).goMode = .strobe)
    (hv : (newCommand (cmd v) (s.ch .c0)).getLsbD 15 = true) (hi : (s.ch .c0).state = .idle)
    (hs : (s.ch .c0).pendStop = false) (he : (s.ch .c0).pendEject = false) : QuietGo (cmd v) .c0 s :=
  ⟨commandAt v s hw h1 h2 h3, strobe _ _ hg hv, hi, hs, he⟩

theorem quietCh (v : Word) (c : Channel) (hg : c.goMode = .strobe)
    (hv : (newCommand (cmd v) c).getLsbD 15 = true) (hi : c.state = .idle) (hs : c.pendStop = false)
    (he : c.pendEject = false) : QuietGo (cmd v) .c0 (withCh c) :=
  quiet v _ rfl rfl rfl rfl hg hv hi hs he

/-- The words of a shadow run are held, after the write of a command word too. -/
def twelve : List Word := [1, 2, 3, 4, 5, 6, 7, 8, 9, 10, 11, 12]

/-- A tape of length 12, the shortest, over no tape and over an unused form. -/
theorem witness_LoadTape :
    let s := { withCh { idle with paper := none } with shadow := shadowOf 3000 (12 :: twelve) }
    QuietGo (cmd 0x9000) .c0 s ∧ (newCommand (cmd 0x9000) (s.ch .c0)).getLsbD 11 = false ∧
      (newCommand (cmd 0x9000) (s.ch .c0)).getLsbD 12 = true ∧
      Holds (shadowHostWrite (cmd 0x9000) .accepted s.shadow) (s.wordAddr (.tape .c0) 0) 12 ∧
      (12 ≤ (12 : Word).toNat ∧ (12 : Word).toNat ≤ 192 ∧ twelve.length = (12 : Word).toNat) ∧
      (∀ i, i < (12 : Word).toNat → Holds (shadowHostWrite (cmd 0x9000) .accepted s.shadow)
        (s.wordAddr (.tape .c0) (i + 1)) (twelve.getD i 0)) ∧
      (s.ch .c0).paper = none ∧ blank.pos = 0 ∧ (blank.form.lines.map fun l => l.cells.length).sum = 0 := by
  refine ⟨quiet _ _ rfl rfl rfl rfl rfl (by decide) rfl rfl rfl, by decide, by decide,
    ⟨by decide, by decide⟩, by decide, ?_, rfl, rfl, rfl⟩
  intro i hi
  have hi' : i < 12 := hi
  unfold Holds
  interval_cases i <;> decide

/-- Lengths 11 and 193. -/
theorem witness_LoadTape_refused :
    ∀ v ∈ [(11 : Word), 193],
      let s := { base with shadow := shadowOf 3000 [v] }
      QuietGo (cmd 0x9000) .c0 s ∧
        Holds (shadowHostWrite (cmd 0x9000) .accepted s.shadow) (s.wordAddr (.tape .c0) 0) v ∧
        (v.toNat < 12 ∨ 192 < v.toNat) := by
  intro v hv
  simp only [List.mem_cons, List.not_mem_nil, or_false] at hv
  rcases hv with rfl | rfl <;>
    exact ⟨quiet _ _ rfl rfl rfl rfl rfl (by decide) rfl rfl rfl, ⟨by decide, by decide⟩, by decide⟩

theorem witness_LoadTapeClosesForm :
    let s := { base with shadow := shadowOf 3000 (12 :: twelve) }
    QuietGo (cmd 0x9000) .c0 s ∧ (newCommand (cmd 0x9000) (s.ch .c0)).getLsbD 11 = false ∧
      (newCommand (cmd 0x9000) (s.ch .c0)).getLsbD 12 = true ∧ 12 ≤ twelve.length ∧
      twelve.length ≤ 192 ∧
      Holds (shadowHostWrite (cmd 0x9000) .accepted s.shadow) (s.wordAddr (.tape .c0) 0)
        (BitVec.ofNat 16 twelve.length) ∧
      (∀ i, i < twelve.length → Holds (shadowHostWrite (cmd 0x9000) .accepted s.shadow)
        (s.wordAddr (.tape .c0) (i + 1)) (twelve.getD i 0)) ∧
      (s.ch .c0).paper = some paper ∧ 0 < paper.pos ∧ s.cellWait = [] ∧ s.queue.length < 8 := by
  refine ⟨quiet _ _ rfl rfl rfl rfl rfl (by decide) rfl rfl rfl, by decide, by decide, by decide,
    by decide, ⟨by decide, by decide⟩, ?_, rfl, by decide, rfl, by decide⟩
  intro i hi
  have hi' : i < 12 := hi
  unfold Holds
  interval_cases i <;> decide

theorem paperOk : PaperOk paper := by
  unfold PaperOk TapeOk FormOk LineOk CellOk FormUnplaced
  decide

/-- The paper at line 10, two lines before the form's end. -/
def late : Paper := { paper with pos := 10 }

theorem lateOk : PaperOk late := by
  unfold PaperOk TapeOk FormOk LineOk CellOk FormUnplaced
  decide

/-- A space of 3 on the form, and one over its end with room. -/
theorem witness_SpaceOnly :
    QuietGo (cmd 0xA083) .c0 base ∧ (base.ch .c0).paper = some paper ∧ PaperOk paper ∧
      (newCommand (cmd 0xA083) (base.ch .c0)).getLsbD 11 = false ∧
      (newCommand (cmd 0xA083) (base.ch .c0)).getLsbD 12 = false ∧
      (newCommand (cmd 0xA083) (base.ch .c0)).getLsbD 7 = true ∧
      (newCommand (cmd 0xA083) (base.ch .c0)).getLsbD 6 = false ∧
      RoomFor .c0 paper ((newCommand (cmd 0xA083) (base.ch .c0)).toNat % 4) base ∧
      ((withCh { idle with paper := some late }).ch .c0).paper = some late ∧ PaperOk late ∧
      RoomFor .c0 late 3 (withCh { idle with paper := some late }) :=
  ⟨quietCh _ _ rfl (by decide) rfl rfl rfl, rfl, paperOk, by decide, by decide, by decide, by decide,
    .inl (by decide), rfl, lateOk, .inr ⟨rfl, .inr (by decide)⟩⟩

/-- A skip that lands, and a tape channel that is punched nowhere; the tape channels 1 and 12 are the
bounds. -/
theorem witness_SkipOnly :
    QuietGo (cmd 0xA0C1) .c0 base ∧ (base.ch .c0).paper = some paper ∧ PaperOk paper ∧
      (newCommand (cmd 0xA0C1) (base.ch .c0)).getLsbD 11 = false ∧
      (newCommand (cmd 0xA0C1) (base.ch .c0)).getLsbD 12 = false ∧
      (newCommand (cmd 0xA0C1) (base.ch .c0)).getLsbD 7 = true ∧
      (newCommand (cmd 0xA0C1) (base.ch .c0)).getLsbD 6 = true ∧
      (newCommand (cmd 0xA0C1) (base.ch .c0)).toNat % 16 = 1 ∧ SkipLands paper 1 1 ∧
      RoomFor .c0 paper 1 base ∧ SkipLands paper 12 6 ∧ RoomFor .c0 paper 6 base ∧
      NeverPunched paper 2 := by
  refine ⟨quietCh _ _ rfl (by decide) rfl rfl rfl, rfl, paperOk, by decide, by decide, by decide,
    by decide, by decide, ?_, .inl (by decide), ?_, .inl (by decide), ?_⟩
  · exact ⟨by decide, by decide, by decide, fun j h1 h2 => by omega⟩
  · refine ⟨by decide, by decide, by decide, fun j h1 h2 => ?_⟩
    interval_cases j <;> decide
  · unfold NeverPunched
    decide

/-- A table that prints A as glyph 5 and B as a blank, and nothing else. -/
def table : List TransEntry :=
  List.replicate 0x41 .unprintable ++ [.glyph 5, .blank] ++ List.replicate 189 .unprintable

/-- The base state with a line of n positions, its length and its first page word valid in the shadow. -/
def lineState (n : Word) (c : Channel) : State :=
  { withCh c with
    shadow := shadowOf 1002 [n] ++ shadowOf 2000 [0x4142]
    setup := { SetupUnit.powerOn with translation := table } }

/-- The codes of that line: A and B. -/
def codes (p : Nat) : Byte := if p = 1 then 0x41 else 0x42

theorem lineHeld (w v : Word) (c : Channel) (h : v.toNat ≤ 2)
    (hl : Holds (shadowHostWrite (cmd w) .accepted (lineState v c).shadow)
      ((lineState v c).wordAddr (.control .c0) 2) v)
    (hp : ∀ p, p < 2 → (shadowHostWrite (cmd w) .accepted (lineState v c).shadow).read
      (2 * ((lineState v c).wordAddr (.pages .c0) (0 + p / 2)).toNat + p % 2) = some (codes (p + 1))) :
    LineHeld (shadowHostWrite (cmd w) .accepted (lineState v c).shadow) (lineState v c) .c0 false v
      codes := by
  refine ⟨hl, fun p h1 h2 => ?_⟩
  have := hp (p - 1) (by omega)
  have e : p - 1 + 1 = p := by omega
  rw [e] at this
  exact this

theorem lineGo (w : Word) (c : Channel) (hg : c.goMode = .strobe)
    (hv : (newCommand (cmd w) c).getLsbD 15 = true) (hvp : (newCommand (cmd w) c).getLsbD 14 = false)
    (hi : c.state = .idle) (hs : c.pendStop = false) (he : c.pendEject = false)
    {p : Paper} (hp : c.paper = some p)
    (hl : Holds (shadowHostWrite (cmd w) .accepted (lineState 2 c).shadow)
      ((lineState 2 c).wordAddr (.control .c0) 2) 2)
    (hpg : ∀ p, p < 2 → (shadowHostWrite (cmd w) .accepted (lineState 2 c).shadow).read
      (2 * ((lineState 2 c).wordAddr (.pages .c0) (0 + p / 2)).toNat + p % 2) = some (codes (p + 1)))
    (hb : c.policy ≠ .check ∨ badCount table codes 2 = 0) :
    LineGo (cmd w) .accepted .c0 2 codes p (lineState 2 c) :=
  { quiet w (lineState 2 c) rfl rfl rfl rfl hg hv hi hs he with
    carriage := hp
    held := by
      have e : ((lineState 2 c).ch .c0) = c := rfl
      rw [e, hvp]
      exact lineHeld w 2 c (by decide) hl hpg
    printable := hb }

/-- A line of two positions, "AB", shifted by 1, that needs one cell of the pool. -/
theorem witness_PrintThenSpace :
    let s := lineState 2 { idle with shift := 1 }
    PrintGo (cmd 0xA003) .accepted .c0 2 codes paper s ∧ PaperOk paper ∧
      (newCommand (cmd 0xA003) (s.ch .c0)).getLsbD 11 = false ∧
      (newCommand (cmd 0xA003) (s.ch .c0)).getLsbD 12 = false ∧
      (newCommand (cmd 0xA003) (s.ch .c0)).getLsbD 7 = false ∧
      (newCommand (cmd 0xA003) (s.ch .c0)).getLsbD 6 = false ∧
      RoomFor .c0 paper ((newCommand (cmd 0xA003) (s.ch .c0)).toNat % 4) s := by
  refine ⟨{ lineGo 0xA003 { idle with shift := 1 } rfl (by decide) (by decide) rfl rfl rfl rfl
      ⟨by decide, by decide⟩ (by decide) (.inl (by decide)) with cells := .inr ⟨rfl, by decide⟩ },
    paperOk, by decide, by decide, by decide, by decide, .inl (by decide)⟩

theorem witness_PrintThenSkip :
    let s := lineState 2 { idle with shift := 1 }
    PrintGo (cmd 0xA041) .accepted .c0 2 codes paper s ∧ PaperOk paper ∧
      (newCommand (cmd 0xA041) (s.ch .c0)).getLsbD 11 = false ∧
      (newCommand (cmd 0xA041) (s.ch .c0)).getLsbD 12 = false ∧
      (newCommand (cmd 0xA041) (s.ch .c0)).getLsbD 7 = false ∧
      (newCommand (cmd 0xA041) (s.ch .c0)).getLsbD 6 = true ∧
      (newCommand (cmd 0xA041) (s.ch .c0)).toNat % 16 = 1 ∧ SkipLands paper 1 1 ∧
      RoomFor .c0 paper 1 s ∧ NeverPunched paper 2 := by
  refine ⟨{ lineGo 0xA041 { idle with shift := 1 } rfl (by decide) (by decide) rfl rfl rfl rfl
      ⟨by decide, by decide⟩ (by decide) (.inl (by decide)) with cells := .inr ⟨rfl, by decide⟩ },
    paperOk, by decide, by decide, by decide, by decide, by decide,
    ⟨by decide, by decide, by decide, fun j h1 h2 => by omega⟩, .inl (by decide), ?_⟩
  unfold NeverPunched
  decide

/-- The codes "AC", C being unprintable. -/
def badCodes (p : Nat) : Byte := if p = 1 then 0x41 else 0x43

theorem witness_CheckRefusesLine :
    let s : State := { lineState 2 { idle with policy := .check } with
      shadow := shadowOf 1002 [2] ++ shadowOf 2000 [0x4143] }
    QuietGo (cmd 0x8041) .c0 s ∧ (s.ch .c0).paper.isSome = true ∧
      (newCommand (cmd 0x8041) (s.ch .c0)).getLsbD 11 = false ∧
      (newCommand (cmd 0x8041) (s.ch .c0)).getLsbD 12 = false ∧
      (newCommand (cmd 0x8041) (s.ch .c0)).getLsbD 7 = false ∧
      (newCommand (cmd 0x8041) (s.ch .c0)).toNat % 16 = 1 ∧
      LineHeld (shadowHostWrite (cmd 0x8041) .accepted s.shadow) s .c0 false 2 badCodes ∧
      (newCommand (cmd 0x8041) (s.ch .c0)).getLsbD 14 = false ∧
      (s.ch .c0).policy = .check ∧ 0 < badCount s.setup.translation badCodes (min (2 : Word).toNat 160) := by
  refine ⟨quiet _ _ rfl rfl rfl rfl rfl (by decide) rfl rfl rfl, rfl, by decide, by decide, by decide,
    by decide, ⟨⟨by decide, by decide⟩, fun p h1 h2 => ?_⟩, by decide, rfl, by decide⟩
  have h3 : p ≤ 2 := h2
  interval_cases p <;> decide

/-- Strikes at both ends of a line and on the cell at column 1. -/
def ends : List Strike := [⟨0, 1⟩, ⟨1, 2⟩, ⟨159, 3⟩]

theorem witness_MergeCells : PaperOk paper ∧ StrikesOk ends := by
  refine ⟨paperOk, ?_⟩
  unfold StrikesOk
  decide

theorem witness_Placement : FormOk paper.form ∧
    cellOf paper.form 4 1 = some ⟨1, [7], none⟩ ∧ cellOf paper.form 4 2 = none :=
  ⟨paperOk.2.2.1, by decide, by decide⟩

/-- A channel in 2-up. -/
def twoUp (pend : Option Form) : Channel :=
  { idle with
    pendSheet := pend
    layout := { Layout.powerOn with geo := { Layout.powerOn.geo with twoUp := true } } }

theorem witness_CloseRoutes :
    (base.ch .c0).layout.geo.twoUp = false ∧ (twoUp none).layout.geo.twoUp = true ∧
      (twoUp none).pendSheet = none ∧ (twoUp (some paper.form)).pendSheet = some paper.form :=
  ⟨rfl, rfl, rfl, rfl⟩

theorem lineGo_with {w : BusWrite} {ans : WriteAnswer} {ch : ChannelId} {v : Word} {k : Nat → Byte}
    {p : Paper} {s : State} (h : LineGo w ans ch v k p s) (q : List Sheet) (n : Nat) :
    LineGo w ans ch v k p { s with queue := q, freeCells := n } :=
  ⟨⟨⟨⟨⟨h.toQuietGo.passes.free, h.toQuietGo.passes.unguarded, h.toQuietGo.passes.unmatched⟩,
      h.toQuietGo.passes.alone⟩, h.toQuietGo.word⟩, h.toQuietGo.go, h.toQuietGo.idle,
      h.toQuietGo.noStop, h.toQuietGo.noEject⟩,
    h.carriage, ⟨h.held.length, h.held.page⟩, h.printable⟩

/-- The line "AB" shifted by 1 needs one cell where none is free; at shift 0 it would need one too. -/
theorem witness_LineWaitsForCells :
    let s : State :=
      { lineState 2 { idle with shift := 1, paper := some { paper with form := ⟨12, 0, []⟩ } } with
        queue := [sheet 1], freeCells := 0 }
    let s' : State := { lineState 2 { idle with shift := -1 } with queue := [sheet 1], freeCells := 0 }
    (LineGo (cmd 0x8003) .accepted .c0 2 codes paper
      { lineState 2 { idle with shift := 2 } with queue := [sheet 1], freeCells := 0 }) ∧
    (newCommand (cmd 0x8003) (s.ch .c0)).getLsbD 11 = false ∧
    (newCommand (cmd 0x8003) (s.ch .c0)).getLsbD 12 = false ∧
    (newCommand (cmd 0x8003) (s.ch .c0)).getLsbD 7 = false ∧ s'.queue ≠ [] ∧
    0 < needed paper (landing (rawStrikes table codes (min (2 : Word).toNat 160) { idle with shift := 2 })) ∧
    s'.freeCells <
      needed paper (landing (rawStrikes table codes (min (2 : Word).toNat 160) { idle with shift := 2 })) ∧
    (newCommand (cmd 0x8003) (s.ch .c0)).getLsbD 6 = false ∧
    (newCommand (cmd 0x8041) (s.ch .c0)).getLsbD 6 = true ∧
    (newCommand (cmd 0x8041) (s.ch .c0)).toNat % 16 = 1 :=
  ⟨lineGo_with (lineGo 0x8003 { idle with shift := 2 } rfl (by decide) (by decide) rfl rfl rfl rfl
      ⟨by decide, by decide⟩ (by decide) (.inl (by decide))) _ _,
    by decide, by decide, by decide, by decide, by decide, by decide, by decide, by decide, by decide⟩

/-- A queue of eight sheets, the whole of it. -/
def full (s : State) : State := { s with queue := List.replicate 8 (sheet 1) }

theorem witness_MoveWaitsForRoom :
    let s := full (withCh { idle with paper := some late })
    QuietGo (cmd 0x8083) .c0 s ∧ (s.ch .c0).paper = some late ∧ PaperOk late ∧
      (newCommand (cmd 0x8083) (s.ch .c0)).getLsbD 11 = false ∧
      (newCommand (cmd 0x8083) (s.ch .c0)).getLsbD 12 = false ∧
      (newCommand (cmd 0x8083) (s.ch .c0)).getLsbD 7 = true ∧
      late.tape.masks.length ≤ late.pos + 3 ∧ late.tape.masks.length ≤ late.pos + 4 ∧
      8 ≤ s.queue.length ∧ Claim.move .c0 ∉ s.roomWait ∧ (s.ch .c0).layout.geo.twoUp = false ∧
      (newCommand (cmd 0x8083) (s.ch .c0)).getLsbD 6 = false ∧
      (newCommand (cmd 0x8083) (s.ch .c0)).toNat % 4 = 3 ∧ QuietGo (cmd 0x80C1) .c0 s ∧
      (newCommand (cmd 0x80C1) (s.ch .c0)).getLsbD 6 = true ∧ SkipLands late 1 4 := by
  refine ⟨quiet _ _ rfl rfl rfl rfl rfl (by decide) rfl rfl rfl, rfl, lateOk, by decide, by decide,
    by decide, by decide, by decide, by decide, by decide, rfl, by decide, by decide,
    quiet _ _ rfl rfl rfl rfl rfl (by decide) rfl rfl rfl, by decide, by decide, by decide, by decide,
    fun j h1 h2 => ?_⟩
  interval_cases j <;> decide

/-- The same line with the queue empty: the waiting channel's own form is the victim, and clips nothing. -/
theorem witness_LineWaitsForCells_breaks :
    let s : State := { lineState 2 { idle with shift := 2 } with queue := [], freeCells := 0 }
    LineGo (cmd 0x8003) .accepted .c0 2 codes paper s ∧ s.queue = [] ∧ s.cellWait = [] ∧
      (s.ch .c0).pendSheet = none ∧ Victim .c0 paper .c0 paper s :=
  ⟨lineGo_with (lineGo 0x8003 { idle with shift := 2 } rfl (by decide) (by decide) rfl rfl rfl rfl
      ⟨by decide, by decide⟩ (by decide) (.inl (by decide))) _ _,
    rfl, rfl, rfl, rfl, by decide, rfl, rfl, by decide, .inl rfl⟩

/-- A print over the form's end, by a space of 3 and by a skip of 4, into a full queue. -/
theorem witness_MoveWaitsForRoom_print :
    let s := full (lineState 2 { idle with paper := some late })
    PrintGo (cmd 0x8003) .accepted .c0 2 codes late s ∧ PrintGo (cmd 0x8041) .accepted .c0 2 codes late s ∧
      (newCommand (cmd 0x8003) (s.ch .c0)).getLsbD 12 = false ∧
      (newCommand (cmd 0x8003) (s.ch .c0)).getLsbD 7 = false ∧
      (newCommand (cmd 0x8003) (s.ch .c0)).getLsbD 6 = false ∧
      (newCommand (cmd 0x8003) (s.ch .c0)).toNat % 4 = 3 ∧ late.tape.masks.length ≤ late.pos + 3 ∧
      (newCommand (cmd 0x8041) (s.ch .c0)).getLsbD 6 = true ∧
      (newCommand (cmd 0x8041) (s.ch .c0)).toNat % 16 = 1 := by
  refine ⟨{ lineGo_with (lineGo 0x8003 { idle with paper := some late } rfl (by decide) (by decide) rfl rfl
      rfl rfl ⟨by decide, by decide⟩ (by decide) (.inl (by decide))) _ _ with
        cells := .inr ⟨rfl, by decide⟩ },
    { lineGo_with (lineGo 0x8041 { idle with paper := some late } rfl (by decide) (by decide) rfl rfl
      rfl rfl ⟨by decide, by decide⟩ (by decide) (.inl (by decide))) _ _ with
        cells := .inr ⟨rfl, by decide⟩ },
    by decide, by decide, by decide, by decide, by decide, by decide, by decide⟩

/-- A LOAD-TAPE of the shortest tape over a used form, with the queue full. -/
theorem witness_MoveWaitsForRoom_load :
    let s := full { base with shadow := shadowOf 3000 (12 :: twelve) }
    QuietGo (cmd 0x9000) .c0 s ∧ (s.ch .c0).paper = some paper ∧ PaperOk paper ∧ 8 ≤ s.queue.length ∧
      (newCommand (cmd 0x9000) (s.ch .c0)).getLsbD 11 = false ∧
      (newCommand (cmd 0x9000) (s.ch .c0)).getLsbD 12 = true ∧ 12 ≤ twelve.length ∧
      twelve.length ≤ 192 ∧
      Holds (shadowHostWrite (cmd 0x9000) .accepted s.shadow) (s.wordAddr (.tape .c0) 0)
        (BitVec.ofNat 16 twelve.length) ∧
      (∀ i, i < twelve.length → Holds (shadowHostWrite (cmd 0x9000) .accepted s.shadow)
        (s.wordAddr (.tape .c0) (i + 1)) (twelve.getD i 0)) ∧ 0 < paper.pos :=
  ⟨quiet _ _ rfl rfl rfl rfl rfl (by decide) rfl rfl rfl, rfl, paperOk, by decide, by decide, by decide,
    by decide, by decide, witness_LoadTapeClosesForm.2.2.2.2.2.1, witness_LoadTapeClosesForm.2.2.2.2.2.2.1,
    by decide⟩

/-- A print-then-space whose line waits for cells, with its carriage. -/
def waitingOp (n : Nat) : Op := ⟨.printSpace, false, n, true, .placing ends, false⟩

def waiting (p : Paper) (n : Nat) : State :=
  { withCh { idle with state := .busy (waitingOp n), paper := some p } with cellWait := [.c0] }

theorem witness_CellWaitRetry :
    let s := waiting paper 3
    (s.ch .c0).state = .busy (waitingOp 3) ∧ (waitingOp 3).stage = .placing ends ∧
      (waitingOp 3).kind = .printSpace ∧ (waitingOp 3).count ≤ 3 ∧ (s.ch .c0).paper = some paper ∧
      PaperOk paper ∧ s.cellWait = [.c0] ∧ needed paper ends ≤ s.freeCells ∧
      (s.ch .c0).pendStop = false ∧ (s.ch .c0).pendEject = false ∧
      RoomFor .c0 paper 3 { s with cellWait := [] } ∧
      ({ s with freeCells := 1, queue := [sheet 1] } : State).freeCells < needed paper ends :=
  ⟨rfl, rfl, rfl, by decide, rfl, paperOk, rfl, by decide, rfl, rfl, .inl (by decide), by decide⟩

/-- A line with a cell in every column, and a form of 153 such lines: 24,480 cells. -/
def fullLine (i : Nat) : FormLine := ⟨i, (List.range 160).map fun c => ⟨c, [0], none⟩⟩

def fullForm : Form := ⟨192, 0, (List.range 153).map fullLine⟩

/-- The carriage of that form on its last line. -/
def fullPaper : Paper := ⟨⟨List.replicate 192 0⟩, 191, fullForm⟩

theorem fullForm_ok : FormOk fullForm ∧ FormUnplaced fullForm := by
  refine ⟨⟨List.pairwise_map.2 List.pairwise_lt_range, ?_⟩, ?_⟩
  · intro l hl
    obtain ⟨i, hi, rfl⟩ := List.mem_map.1 hl
    rw [List.mem_range] at hi
    refine ⟨⟨by simp [fullLine], List.pairwise_map.2 List.pairwise_lt_range, ?_⟩, Nat.zero_le _, ?_⟩
    · intro c hc
      obtain ⟨k, hk, rfl⟩ := List.mem_map.1 hc
      rw [List.mem_range] at hk
      exact ⟨hk, by simp, by simp [Config.maxStrikes]⟩
    · show i < 192
      omega
  · intro l hl c hc
    obtain ⟨i, _, rfl⟩ := List.mem_map.1 hl
    obtain ⟨k, _, rfl⟩ := List.mem_map.1 hc
    rfl

/-- A strike in every column. -/
def allColumns : List Strike := (List.range 160).map fun c => ⟨c, 0⟩

/-- The pool nearly spent on one form, and a line of 160 columns waiting with 96 cells free. -/
def starved : State :=
  { base with
    chans := { State.reset.chans with
      ch0 := { idle with
        state := .busy ⟨.printSpace, false, 3, true, .placing allColumns, false⟩
        paper := some fullPaper } }
    freeCells := 96, cellWait := [.c0] }

theorem channel_powerOn_ok : ChannelOk Channel.powerOn := by
  refine ⟨fun _ => ⟨rfl, rfl, rfl⟩, (fun h => nomatch h), (fun p h => nomatch h), (fun f h => nomatch h),
    (fun op h => nomatch h)⟩

theorem starved_ok : ChannelsOk starved := by
  intro ch _
  cases ch
  · refine ⟨(fun h => nomatch h), (fun h => nomatch h), fun p h => ?_, (fun f h => nomatch h),
      fun op h => ?_⟩
    · cases h
      have e : fullPaper.tape.length = 192 := List.length_replicate
      refine ⟨⟨?_, ?_⟩, ?_, fullForm_ok.1, fullForm_ok.2, e.symm, Nat.zero_le _⟩ <;> rw [e] <;> decide
    · cases h
      refine ⟨rfl, rfl, rfl, List.pairwise_map.2 List.pairwise_lt_range, fun k hk => ?_⟩
      obtain ⟨c, hc, rfl⟩ := List.mem_map.1 hk
      exact List.mem_range.1 hc
  all_goals exact channel_powerOn_ok

theorem fullForm_cells : fullForm.cellCount = 24480 := by
  simp [Form.cellCount, fullForm, fullLine, Function.comp_def]

theorem starved_total : CellsTotal starved := by
  have h : (starved.ch .c0).openCells = 24480 := fullForm_cells
  simp only [CellsTotal, heldCells, allChannels, List.map_cons, List.sum_cons, h]
  rfl

theorem fullPaper_line : fullPaper.form.cellsAt fullPaper.pos = [] := by
  have h2 : fullForm.lines.find? (fun l => decide (l.index = 191)) = none := by
    rw [List.find?_eq_none]
    intro l hl
    obtain ⟨i, hi, rfl⟩ := List.mem_map.1 hl
    rw [List.mem_range] at hi
    have h : i ≠ 191 := by omega
    show ¬ decide (i = 191) = true
    simpa using h
  unfold Form.cellsAt
  show (match fullForm.lines.find? (fun l => decide (l.index = 191)) with
    | some l => l.cells
    | none => []) = []
  rw [h2]

theorem starved_needed : needed fullPaper allColumns = 160 := by
  unfold needed
  rw [fullPaper_line]
  simp [allColumns]

theorem fullPaper_ok : PaperOk fullPaper := by
  have e : fullPaper.tape.length = 192 := List.length_replicate
  refine ⟨⟨?_, ?_⟩, ?_, fullForm_ok.1, fullForm_ok.2, e.symm, Nat.zero_le _⟩ <;> rw [e] <;> decide

/-- A form of one line of 96 cells. -/
def restForm : Form := ⟨192, 0, [⟨0, (List.range 96).map fun c => ⟨c, [0], none⟩⟩]⟩

theorem restForm_ok : FormOk restForm ∧ FormUnplaced restForm := by
  refine ⟨⟨by simp [restForm], ?_⟩, ?_⟩
  · intro l hl
    obtain rfl := List.mem_singleton.1 hl
    refine ⟨⟨by simp, List.pairwise_map.2 List.pairwise_lt_range, ?_⟩, Nat.zero_le _, by decide⟩
    intro c hc
    obtain ⟨k, hk, rfl⟩ := List.mem_map.1 hc
    rw [List.mem_range] at hk
    exact ⟨Nat.lt_trans hk (by decide), by simp, by simp [Config.maxStrikes]⟩
  · intro l hl c hc
    obtain rfl := List.mem_singleton.1 hl
    obtain ⟨k, _, rfl⟩ := List.mem_map.1 hc
    rfl

/-- A 2-up channel in IDLE whose open form and pending sheet hold the whole pool. -/
def dryChannel : Channel := { twoUp (some restForm) with paper := some fullPaper }

/-- A line that needs one cell, none being free, and no sheet queued. -/
def dry : State := { lineState 2 dryChannel with queue := [], freeCells := 0 }

theorem dry_ok : ChannelsOk dry := by
  intro ch _
  cases ch
  · refine ⟨(fun h => nomatch h), fun _ => ⟨rfl, rfl⟩, fun p h => ?_, fun f h => ?_, (fun op h => nomatch h)⟩
    · cases h
      exact fullPaper_ok
    · cases h
      exact restForm_ok
  all_goals exact channel_powerOn_ok

theorem dry_total : CellsTotal dry := by
  have h : (dry.ch .c0).openCells = 24480 := fullForm_cells
  have h2 : formCells (dry.ch .c0).pendSheet = 96 := by simp [formCells, dry, lineState, withCh, State.ch,
    dryChannel, twoUp, restForm, Form.cellCount]
  simp only [CellsTotal, heldCells, allChannels, List.map_cons, List.sum_cons, h, h2]
  rfl

/-- A line joins the wait list with the queue empty. -/
theorem witness_LineWaitsForCells_dry :
    LineGo (cmd 0x8003) .accepted .c0 2 codes fullPaper dry ∧ dry.queue = [] ∧ dry.cellWait = [] ∧
      needed fullPaper (landing (rawStrikes table codes (min (2 : Word).toNat 160) dryChannel)) = 1 ∧
      dry.freeCells = 0 ∧ CellsTotal dry ∧ ChannelsOk dry := by
  refine ⟨lineGo_with (lineGo 0x8003 dryChannel rfl (by decide) (by decide) rfl rfl rfl rfl
      ⟨by decide, by decide⟩ (by decide) (.inl (by decide))) _ _, rfl, rfl, ?_, rfl, dry_total, dry_ok⟩
  have h : landing (rawStrikes table codes (min (2 : Word).toNat 160) dryChannel) = [⟨0, 5⟩] := by decide
  rw [h]
  unfold needed
  rw [fullPaper_line]
  rfl

/-- The state in which a retry must break a form. -/
theorem witness_CellWaitRetry_dry :
    starved.cellWait = .c0 :: [] ∧ (starved.ch .c0).paper = some fullPaper ∧
      starved.freeCells < needed fullPaper allColumns ∧ starved.queue = [] ∧ CellsTotal starved ∧
      ChannelsOk starved :=
  ⟨rfl, rfl, by rw [starved_needed]; decide, rfl, starved_total, starved_ok⟩

/-- The waiting channel's own form, and another channel's when the waiting form is empty. -/
theorem witness_ForcedBreak :
    let s := { waiting paper 3 with freeCells := 1 }
    let t : State := { waiting blank 3 with
      freeCells := 2, chans := { (waiting blank 3).chans with ch1 := idle } }
    (s.cellWait = .c0 :: [] ∧ s.queue = [] ∧ s.link.state ≠ .idleUp ∧
      (s.ch .c0).state = .busy (waitingOp 3) ∧ (waitingOp 3).stage = .placing ends ∧
      (s.ch .c0).paper = some paper ∧ s.freeCells < needed paper ends ∧ (s.ch .c0).pendSheet = none ∧
      0 < paper.form.cellCount ∧ (s.ch .c0).layout.geo.twoUp = false ∧
      clippedCells (s.ch .c0).layout.geo false paper.form = 0) ∧
    ((t.ch .c0).paper = some blank ∧ t.freeCells < needed blank ends ∧ (t.ch .c1).paper = some paper ∧
      (t.ch .c1).pendSheet = none ∧ blank.form.cellCount = 0 ∧
      ∀ u : ChannelId, u ≠ .c1 → (t.ch u).openCells ≤ paper.form.cellCount ∧
        (u.toNat < ChannelId.c1.toNat → (t.ch u).openCells < paper.form.cellCount)) := by
  refine ⟨⟨rfl, rfl, by decide, rfl, rfl, rfl, by decide, rfl, by decide, rfl, by decide⟩,
    rfl, by decide, rfl, rfl, by decide, fun u hu => ?_⟩
  cases u
  · decide
  · exact absurd rfl hu
  · decide
  · decide

/-- A space of 3 that waits for room, and a run-out action held due. -/
theorem witness_RoomWaitTaken :
    let op : Op := ⟨.spaceOnly, false, 3, true, .moving none, false⟩
    let s : State :=
      { withCh { idle with state := .busy op, paper := some late } with roomWait := [.move .c0, .move .c1] }
    let t : State := { withCh { idle with runOutDue := true } with roomWait := [.runOut .c0] }
    (s.roomWait = .move .c0 :: [.move .c1] ∧ Claim.move .c0 ∉ [Claim.move .c1] ∧ s.queue.length < 8 ∧
      s.cellWait = [] ∧ (s.ch .c0).state = .busy op ∧ op.stage = .moving none ∧ op.kind = .spaceOnly ∧
      op.count ≤ 3 ∧ (s.ch .c0).paper = some late ∧ PaperOk late ∧
      late.tape.masks.length ≤ late.pos + op.count ∧ (s.ch .c0).pendStop = false ∧
      (s.ch .c0).pendEject = false) ∧
    (t.roomWait = .runOut .c0 :: [] ∧ Claim.runOut .c0 ∉ ([] : List Claim) ∧ t.queue.length < 8 ∧
      t.cellWait = [] ∧ (t.ch .c0).paper = some paper ∧ 0 < paper.form.cellCount ∧
      (t.ch .c0).pendSheet = none) ∧
    8 ≤ (full base).queue.length :=
  ⟨⟨rfl, by decide, by decide, rfl, rfl, rfl, rfl, by decide, rfl, lateOk, by decide, rfl, rfl⟩,
    ⟨rfl, by decide, by decide, rfl, rfl, by decide, rfl⟩, by decide⟩

theorem witness_RunOut :
    let s := withCh { idle with runOut := 1 }
    let t := withCh { twoUp (some paper.form) with runOut := 1 }
    RunsOut .c0 s ∧ RunsOut .c0 t ∧ RunsOut .c0 (full s) ∧ (s.ch .c0).paper = some paper ∧
      0 < paper.form.cellCount ∧ (s.ch .c0).pendSheet = none ∧ s.queue.length < 8 ∧ s.cellWait = [] ∧
      (t.ch .c0).pendSheet = some paper.form ∧ (t.ch .c0).layout.geo.twoUp = true ∧
      blank.form.cellCount = 0 ∧ 8 ≤ (full s).queue.length ∧ Claim.runOut .c0 ∉ (full s).roomWait :=
  ⟨⟨.inl rfl, rfl, rfl, by decide⟩, ⟨.inl rfl, rfl, rfl, by decide⟩, ⟨.inl rfl, rfl, rfl, by decide⟩,
    rfl, by decide, rfl, by decide, rfl, rfl, rfl, by decide, by decide, by decide⟩

/-! ### Witnesses of the invariants: the base state with a command waiting -/

/-- The base state with a STOP waiting. -/
def stepping : State := { base with pending := [.stop] }

theorem stepping_steps : ∃ t, step stepping = .next t := ⟨_, rfl⟩

theorem stepping_channels : ChannelsOk stepping := by
  intro ch _
  cases ch
  · refine ⟨(fun h => nomatch h), (fun h => nomatch h), fun p h => ?_, (fun f h => nomatch h),
      (fun op h => nomatch h)⟩
    cases h
    exact paperOk
  all_goals exact channel_powerOn_ok

theorem witness_CellPoolKept :
    CellsTotal stepping ∧ ChannelsOk stepping ∧ ∃ t, step stepping = .next t :=
  ⟨rfl, stepping_channels, stepping_steps⟩

theorem witness_WaitListsKept :
    ChannelsOk stepping ∧ CellWaitOk stepping ∧ RoomWaitOk stepping ∧ ∃ t, step stepping = .next t := by
  refine ⟨stepping_channels, ⟨List.nodup_nil, fun ch _ => ?_⟩,
    ⟨List.nodup_nil, fun ch _ => ?_, fun ch _ => ?_⟩, stepping_steps⟩
  · cases ch <;> exact ⟨(fun h => nomatch h), (fun h => nomatch h)⟩
  · constructor
    · intro h
      cases h
    · rintro ⟨op, h, _⟩
      cases ch <;> cases h
  · cases ch <;> exact ⟨(fun h => nomatch h), (fun h => nomatch h)⟩

theorem witness_QueueAndLinkKept :
    ChannelsOk stepping ∧ QueueOk stepping ∧ LinkFitsQueue stepping ∧ ∃ t, step stepping = .next t := by
  refine ⟨stepping_channels, ⟨by decide, (fun sh h => nomatch h)⟩, ⟨fun _ => rfl, fun h => ?_, fun h => ?_⟩,
    stepping_steps⟩
  · exact absurd h (by decide)
  · exact absurd h (by decide)

theorem witness_WindowsKept :
    WindowsOk stepping ∧ BindingOk stepping ∧ ∃ t, step stepping = .next t := by
  refine ⟨?_, ?_, stepping_steps⟩
  · unfold WindowsOk
    decide
  · unfold BindingOk
    decide

/-- The shadow holds the first and the last byte of the tape window. -/
theorem witness_ShadowKept :
    ShadowOk { stepping with shadow := [(6000, 1), (6385, 2)] } ∧ ∃ t, step stepping = .next t := by
  refine ⟨?_, stepping_steps⟩
  unfold ShadowOk Memory.wf
  decide

theorem tables_powerOn :
    SetupUnit.powerOn.translation.length = 256 ∧ SetupUnit.powerOn.glyphCodes.length = 64 ∧
      SetupUnit.powerOn.answers.length = 8 :=
  ⟨List.length_replicate, (List.length_map _).trans List.length_range, rfl⟩

theorem witness_BoundsKept :
    OwnQueueOk stepping ∧ stepping.passedOver ≤ 32 ∧ TablesOk stepping ∧ ∃ t, step stepping = .next t :=
  ⟨⟨by decide, by decide⟩, by decide, tables_powerOn, stepping_steps⟩

/-! ### Witnesses: reset, panel, ticks -/

/-- Every kind of channel state, an operation's FETCH in progress and waiting, and a waiting TALLY-WRITE. -/
theorem witness_HostBusReset :
    let s : State := { base with
      ownQueue := [.tally .c0 1003 1, .fetch (.operation .c0) ⟨1002, .lineLength⟩]
      ownCycle := some (.fetch (.operation .c0) ⟨2000, .page 0⟩), placeWait := [.operation .c0] }
    s.cellWait = [] ∧ s.setup.apply = none ∧ ∀ r ∈ s.placeWait, ∃ ch, r = .operation ch := by
  refine ⟨rfl, rfl, fun r hr => ⟨.c0, ?_⟩⟩
  simpa using hr

/-- The base state with every switch OPEN and channel 0 selected. -/
def opened (s : State) : State := { s with panel := ⟨.opened, .opened, .opened, .c0⟩ }

/-- A link state over a state whose queue holds n sheets. -/
def linked (l : LinkState) (n : Nat) (s : State) : State :=
  { queued n s with link := { LinkCtl.powerOn with state := l } }

theorem witness_StopAndStart :
    (opened base).panel.stopSwitch = .opened ∧ (opened base).panel.startSwitch = .opened ∧
      (opened base).link.state ≠ .waitOperator ∧
      (opened (linked .waitOperator 1 base)).link.state = .waitOperator ∧
      (opened (linked .waitOperator 1 base)).queue = sheet 0 :: [] ∧
      base.panel.stopSwitch = .closed ∧ base.panel.startSwitch = .closed := by decide

/-- A used form with room, one with none, a carriage with nothing to move, an operation in flight. -/
theorem witness_Eject :
    let s := opened base
    let t := opened (full (withCh { idle with state := .stopped }))
    (s.panel.ejectSwitch = .opened ∧ s.panel.selector = .c0 ∧ (s.ch .c0).paper = some paper ∧
      PaperOk paper ∧ 0 < paper.pos ∧ (s.ch .c0).state = .idle ∧ (s.ch .c0).pendStop = false ∧
      s.cellWait = [] ∧ s.queue.length < 8) ∧
    (t.panel.ejectSwitch = .opened ∧ t.panel.selector = .c0 ∧ (t.ch .c0).paper = some paper ∧
      (t.ch .c0).state = .stopped ∧ t.cellWait = [] ∧ (t.ch .c0).layout.geo.twoUp = false ∧
      8 ≤ t.queue.length ∧ Claim.move .c0 ∉ t.roomWait) ∧
    (State.reset.ch .c0).state = .offline ∧
    ((idle.state = .idle) ∧ ∀ p ∈ some blank, p.pos = 0 ∧ p.form.cellCount = 0) ∧
    ((withCh { idle with state := .busy ejectOp }).ch .c0).state = .busy ejectOp :=
  ⟨⟨rfl, rfl, rfl, paperOk, by decide, rfl, rfl, rfl, by decide⟩,
    ⟨rfl, rfl, rfl, rfl, rfl, rfl, by decide, by decide⟩, rfl,
    ⟨rfl, fun p hp => by cases hp; decide⟩, rfl⟩

/-- The state of a FETCH in progress. -/
def fetching (req : Requester) (f : FetchWord) (c : Channel) : State :=
  { withCh c with ownCycle := some (.fetch req f) }

/-- A tape record that lacks the high byte of its length. -/
def shortTape : TapeRec := ⟨none, [⟨none, some 12, false, false⟩], [], 1⟩

/-- Its LOAD-TAPE. -/
def shortLoad : Op := ⟨.loadTape, false, 0, true, .takingTape shortTape, false⟩

theorem fetchingOk {f : FetchWord} {c : Channel} {op : Op} (h : c.state = .busy op)
    (hw : (base.findWindow f.addr).isSome = true) :
    Fetching .c0 f f.dest op (fetching (.operation .c0) f c) :=
  ⟨rfl, rfl, hw, h⟩

/-- A pending STOP, a pending EJECT with movement to make, with room and without, and one without. -/
theorem witness_Eject_pending :
    let c := { idle with state := .busy shortLoad, pendStop := true }
    let f : FetchWord := ⟨3000, .tape 0⟩
    let s := fetching (.operation .c0) f c
    let t := fetching (.operation .c0) f { c with pendEject := true }
    let u := fetching (.operation .c0) f { c with pendEject := true, paper := some blank }
    (Fetching .c0 f (.tape 0) shortLoad s ∧ shortLoad.kind = .loadTape ∧
      shortLoad.stage = .takingTape shortTape ∧ (shortTape.words.getD 0 lackingWord).hi = none ∧
      (s.ch .c0).pendEject = false ∧ (s.ch .c0).pendStop = true) ∧
    (Fetching .c0 f (.tape 0) shortLoad t ∧ (t.ch .c0).pendEject = true ∧ (t.ch .c0).paper = some paper ∧
      PaperOk paper ∧ 0 < paper.pos ∧ t.cellWait = [] ∧ t.queue.length < 8 ∧
      (t.ch .c0).layout.geo.twoUp = false ∧ 8 ≤ (full t).queue.length ∧ Claim.move .c0 ∉ (full t).roomWait) ∧
    (Fetching .c0 f (.tape 0) shortLoad u ∧ (u.ch .c0).pendEject = true ∧ (u.ch .c0).paper = some blank ∧
      blank.pos = 0 ∧ blank.form.cellCount = 0) :=
  ⟨⟨fetchingOk rfl (by decide), rfl, rfl, rfl, rfl, rfl⟩,
    ⟨fetchingOk rfl (by decide), rfl, rfl, paperOk, by decide, rfl, by decide, rfl, by decide, by decide⟩,
    ⟨fetchingOk rfl (by decide), rfl, rfl, rfl, by decide⟩⟩

theorem witness_SelectorAndSwitch : base.panel.ejectSwitch = .closed := rfl

/-- A state for each clause; 2 is the least run-out counter that a tick lowers without an action. -/
theorem witness_ChannelTick :
    (State.reset.ch .c0).state = .offline ∧
    (let c := { idle with state := .busy ejectOp }
     c.state = .busy ejectOp ∧ c.goMode ≠ .sampled) ∧
    (let c := { idle with state := .halted }; c.state = .halted ∧ c.goMode ≠ .sampled) ∧
    (let c := { idle with runOut := 2 }
     c.state = .idle ∧ c.goMode ≠ .sampled ∧ 1 < c.runOut ∧ c.runOutDue = false ∧ 0 < c.openCells) ∧
    idle.runOut = 0 ∧
    (let c := { idle with state := .busy ejectOp, goMode := .sampled }
     c.state = .busy ejectOp ∧ c.goMode = .sampled) ∧
    (let c := { idle with state := .halted, goMode := .sampled, merged := 0x8800 }
     c.state = .halted ∧ c.goMode = .sampled ∧ c.tally = 0 ∧ c.merged.getLsbD 15 = true ∧
        c.prevSample.getLsbD 15 = false ∧ c.merged.getLsbD 11 = true) := by decide

/-- SAMPLED in IDLE and STOPPED: no GO, a CLEAR, a refused GO of each sort, a space and a skip, on a tick on
which no action falls due, and on the tick on which one does, with room and without. -/
theorem witness_ChannelTick_sampled :
    let c := { idle with goMode := .sampled, runOut := 2 }
    let space := { c with merged := 0x8083 }
    let skip := { c with merged := 0x80C1 }
    let last := { space with runOut := 1, merged := 0x8081 }
    (c.state = .idle ∧ c.goMode = .sampled ∧ ¬ (counting c ∧ c.runOut = 1) ∧ ¬ GoRises c) ∧
    (GoRises { c with merged := 0x8800 } ∧ (0x8800 : Word).getLsbD 11 = true) ∧
    (GoRises { space with state := .stopped } ∧ (0x8083 : Word).getLsbD 11 = false) ∧
    (GoRises { space with paper := none } ∧ (0x8083 : Word).getLsbD 12 = false) ∧
    (GoRises { c with merged := 0x80CD } ∧ (0x80CD : Word).getLsbD 6 = true ∧ 12 < (0x80CD : Word).toNat % 16) ∧
    (GoRises space ∧ MoveSampled paper 3 space ∧ RoomFor .c0 paper 3 (withCh space) ∧
      GoRises skip ∧ MoveSampled paper 1 skip ∧ RoomFor .c0 paper 1 (withCh skip)) ∧
    (let s := withCh last
     last.runOut = 1 ∧ last.runOutDue = false ∧ 0 < paper.form.cellCount ∧ last.pendSheet = none ∧
       s.cellWait = [] ∧ s.queue.length < 8 ∧ ¬ GoRises { last with merged := 0 } ∧ GoRises last ∧
       MoveSampled paper 1 last ∧ paper.pos + 1 < paper.tape.masks.length ∧ 8 ≤ (full s).queue.length) := by
  refine ⟨⟨rfl, rfl, by decide, ?_⟩, ⟨⟨by decide, by decide⟩, by decide⟩, ⟨⟨by decide, by decide⟩, by decide⟩,
    ⟨⟨by decide, by decide⟩, by decide⟩, ⟨⟨by decide, by decide⟩, by decide, by decide⟩,
    ⟨⟨by decide, by decide⟩, ⟨by decide, by decide, by decide, .inl ⟨by decide, by decide⟩⟩, .inl (by decide),
      ⟨by decide, by decide⟩,
      ⟨by decide, by decide, by decide, .inr ⟨by decide, by decide, by decide, by decide, by decide, by decide,
        fun j h1 h2 => by omega⟩⟩, .inl (by decide)⟩,
    rfl, rfl, by decide, rfl, rfl, by decide, ?_, ⟨by decide, by decide⟩,
    ⟨by decide, by decide, by decide, .inl ⟨by decide, by decide⟩⟩, by decide, by decide⟩ <;>
  · unfold GoRises
    decide

/-- The last ticks before a link loss, a reply timer and a backoff timer at 2 and at 1. -/
theorem witness_LinkTicks :
    base.link.state = .down ∧
    (let l := { LinkCtl.powerOn with state := .awaiting, silence := 2 }
     l.state ≠ .down ∧ 2 ≤ l.silence) ∧
    (let l := { LinkCtl.powerOn with state := .awaiting, silence := 1, replyTimer := 2 }
     l.silence < 2 ∧ l.state = .awaiting ∧ 1 < l.replyTimer) ∧
    (let l := { LinkCtl.powerOn with state := .backoff, silence := 1, backoffTimer := 2 }
     l.silence < 2 ∧ l.state = .backoff ∧ 1 < l.backoffTimer) ∧
    (let l := { LinkCtl.powerOn with state := .waitOperator, silence := 1 }
     l.silence < 2 ∧ l.state = .waitOperator) ∧
    (let l := { LinkCtl.powerOn with state := .backoff, silence := 1, backoffTimer := 1 }
     let sh := { sheet 1 with attempts := 15 }
     l.silence < 2 ∧ l.state = .backoff ∧ l.backoffTimer = 1 ∧ sh.attempts < 16) := by decide

/-! ### Witnesses: the print link -/

/-- The link of that state with a reply timer at 1, its head sheet after fifteen failed attempts. -/
def awaiting (a : Nat) : State :=
  { base with
    queue := [{ sheet 5 with attempts := a }]
    link := { LinkCtl.powerOn with state := .awaiting, replyTimer := 1 } }

/-- The first, the sixth and the sixteenth failed attempt. -/
theorem witness_FailedAttempt :
    ∀ a ∈ [0, 5, 15],
      (awaiting a).link.state = .awaiting ∧
        (awaiting a).queue = { sheet 5 with attempts := a } :: [] ∧ Hunting (awaiting a) ∧
        (awaiting a).link.silence < 2 ∧ (awaiting a).link.replyTimer = 1 :=
  fun _ _ => ⟨rfl, rfl, ⟨false, rfl⟩, Nat.zero_lt_two, rfl⟩

theorem witness_PulseIsLife :
    Hunting base ∧ base.link.state = .down ∧
    (let l := { LinkCtl.powerOn with state := .training, pulses := 1 }
     l.state = .training ∧ l.pulses < 2) ∧
    (let l := { LinkCtl.powerOn with state := .training, pulses := 2 }
     l.state = .training ∧ l.pulses = 2) ∧
    (awaiting 0).link.state ≠ .down ∧ (awaiting 0).link.state ≠ .training :=
  ⟨⟨false, rfl⟩, rfl, by decide, by decide, by decide, by decide⟩

theorem witness_ReplyRemovesSheet :
    (awaiting 0).link.state = .awaiting ∧ (awaiting 0).queue = sheet 5 :: [] ∧ Hunting (awaiting 0) ∧
      (awaiting 0).roomWait = [] ∧ (awaiting 0).cellWait = [] :=
  ⟨rfl, rfl, ⟨false, rfl⟩, rfl, rfl⟩

/-- A freed place offered to a waiting space of 2 and to a run-out action held due. -/
theorem witness_ReplyRemovesSheet_offered :
    let op : Op := ⟨.spaceOnly, false, 2, true, .moving none, false⟩
    let s : State := { withCh { idle with state := .busy op, paper := some late } with roomWait := [.move .c0] }
    let t : State := { withCh { idle with runOutDue := true } with roomWait := [.runOut .c0] }
    (∃ u, Offered s u) ∧ (∃ u, Offered t u) ∧ Offered base base :=
  ⟨⟨_, .inr (.inl ⟨.c0, _, late, rfl, by decide, rfl, rfl, rfl, by decide, rfl, lateOk, by decide, rfl, rfl,
      rfl⟩)⟩,
    ⟨_, .inr (.inr ⟨.c0, paper, rfl, by decide, rfl, by decide, rfl, rfl⟩)⟩, .inl ⟨rfl, rfl⟩⟩

/-- The head sheet's one cell freed: a waiting line that needs two still waits for the second, is placed and
moves, or is placed and waits for room. -/
theorem witness_ReplyRemovesSheet_retried :
    let s := { waiting paper 3 with freeCells := 0, queue := [sheet 1] }
    let t := { waiting paper 3 with freeCells := 1 }
    let u : State := full { waiting late 2 with freeCells := 2 }
    needed paper ends = 2 ∧ needed late ends = 3 ∧ Retried 1 s { s with freeCells := 1 } ∧
      (∃ v, Retried 1 t v) ∧ ∃ v, Retried 1 u v :=
  ⟨by decide, by decide,
    .inr ⟨.c0, _, _, paper, rfl, rfl, rfl, rfl, by decide, .inl ⟨by decide, by decide, rfl⟩⟩,
    ⟨_, .inr ⟨.c0, waitingOp 3, _, paper, rfl, rfl, rfl, rfl, by decide, .inr (.inl ⟨by decide, paperOk, rfl,
      by decide, rfl, rfl, .inl (by decide), rfl⟩)⟩⟩,
    ⟨_, .inr ⟨.c0, waitingOp 2, _, late, rfl, rfl, rfl, rfl, by decide, .inr (.inr ⟨by decide, lateOk, rfl,
      by decide, by decide, by decide, by decide, .inl rfl, rfl⟩)⟩⟩⟩

/-- Another number in AWAITING, any number in SENDING, DOWN, and TRAINING before and at its last frame. -/
theorem witness_IgnoredReply :
    (let l := { LinkCtl.powerOn with state := .training, pulses := 1 }
     l.state = .training ∧ l.pulses < 2 ∧ ({ l with pulses := 2 } : LinkCtl).pulses = 2) ∧
    Hunting (awaiting 0) ∧ (awaiting 0).link.state ≠ .down ∧ (awaiting 0).link.state ≠ .training ∧
      (∀ sh ∈ (awaiting 0).queue.head?, sh.number ≠ 6) ∧
      (linked .sending 1 base).link.state ≠ .awaiting ∧ Hunting base ∧ base.link.state = .down :=
  ⟨by decide, ⟨false, rfl⟩, by decide, by decide, fun sh h => by cases h; decide, by decide, ⟨false, rfl⟩, rfl⟩

/-- The shortest and the longest payload, a wrong length for each kind, a wrong CRC; a length of 1,501. -/
theorem witness_BadFrame :
    Hunting base ∧ (List.replicate 1500 (0 : Byte)).length ≤ 1500 ∧
      (0x10 : Byte) ∉ [(0x20 : Byte), 0x21, 0x22, 0x23] ∧ [(1 : Byte)].length ≠ 0 ∧
      [(1 : Byte)].length ≠ 2 ∧ [(1 : Byte)].length ≠ 3 ∧ (0x4A5B : Word) ≠ frameCrc 0x20 [] ∧
      1500 < (1501 : Word).toNat := by
  refine ⟨⟨false, rfl⟩, le_of_eq List.length_replicate, ?_⟩
  decide +kernel

/-- The only ROW of the short sheet, and the SHEET-END after it. -/
theorem witness_RowAndEnd :
    let s : State := { base with
      queue := [shortSheet], link := { LinkCtl.powerOn with state := .sending } }
    s.link.state = .sending ∧ s.queue = shortSheet :: [] ∧
      (shortSheet.rows[s.link.rowsSent]?).isSome = true ∧
      shortSheet.rows.length = ({ s.link with rowsSent := 1 } : LinkCtl).rowsSent := by decide

/-! ### Witnesses: own cycles -/

theorem witness_OwnCycleStart :
    let q : List OwnEntry := [.tally .c0 1003 5]
    let f : OwnEntry := .fetch .setup ⟨2000, .record 1⟩
    let w := put 2000 7
    (base.ownCycle = none ∧ base.presented = none ∧ ({ base with ownQueue := q } : State).ownQueue = q) ∧
    (let s : State := { base with ownQueue := q, presented := some (.read 1), passedOver := 32 }
     s.ownCycle = none ∧ 32 ≤ s.passedOver) ∧
    (let s : State := { base with ownQueue := [f], presented := some (.write w) }
     s.ownCycle = none ∧ s.presented = some (.write w) ∧ (s.findWindow w.addr).isSome = true ∧
        FetchWaits w.addr s ∧ s.ownQueue = f :: [] ∧ s.placeWait = []) ∧
    ({ base with ownCycle := some f } : State).ownCycle ≠ none ∧
    (let s : State := { base with ownQueue := q, presented := some (.read 2000), passedOver := 31 }
     s.presented = some (.read 2000) ∧ Unheld (.read 2000) s) := by
  refine ⟨⟨rfl, rfl, rfl⟩, ⟨rfl, by decide⟩,
    ⟨rfl, rfl, by decide, ⟨_, _, .head _, rfl⟩, rfl, rfl⟩, by decide, rfl, rfl, .inr (by decide), ?_⟩
  intro h
  cases h

/-- A line record that lacks its length word. -/
def lineRec (n : Nat) (fetches : List FetchWord) (out : Nat) : LineRec :=
  { length := some n, lengthDamaged := false, lengthWord := ⟨some 0, some 4, false, false⟩
    words := (List.range 80).map fun _ => ⟨none, none, false, false⟩, toFetch := fetches
    outstanding := out }

/-- Eleven places taken, and the twelfth. -/
theorem witness_FetchPlaceGrant :
    let f : OwnEntry := .fetch .setup ⟨65505, .record 1⟩
    let g : FetchWord := ⟨2000, .page 0⟩
    let op : Op := ⟨.printSpace, false, 1, false, .takingLine (lineRec 4 [g] 11), false⟩
    let r : ApplyRec := ⟨[], [⟨65506, .record 2⟩, ⟨65507, .record 3⟩], 11⟩
    let s : State := { base with
      ownQueue := List.replicate 11 f, placeWait := [.setup]
      setup := { SetupUnit.powerOn with apply := some r } }
    let t : State := { withCh { idle with state := .busy op } with placeWait := [.operation .c0, .setup] }
    (s.placeWait = .setup :: [] ∧ s.setup.apply = some r ∧ r.toFetch = ⟨65506, .record 2⟩ :: r.toFetch.tail ∧
      s.ownQueue.countP OwnEntry.isFetch < 12) ∧
    (t.placeWait = .operation .c0 :: [.setup] ∧ (t.ch .c0).state = .busy op ∧
      op.stage = .takingLine (lineRec 4 [g] 11) ∧ (lineRec 4 [g] 11).toFetch = g :: [] ∧
      t.ownQueue.countP OwnEntry.isFetch < 12) ∧
    12 ≤ (List.replicate 12 f).countP OwnEntry.isFetch :=
  ⟨⟨rfl, rfl, rfl, by decide⟩, ⟨rfl, rfl, rfl, rfl, by decide⟩, by decide⟩

/-- A LOAD-TAPE and a print with an empty shadow. -/
theorem witness_FetchesBegin :
    QuietGo (cmd 0x9000) .c0 base ∧ QuietGo (cmd 0x8003) .c0 base ∧
      (newCommand (cmd 0x9000) (base.ch .c0)).getLsbD 11 = false ∧
      (newCommand (cmd 0x9000) (base.ch .c0)).getLsbD 12 = true ∧
      (newCommand (cmd 0x8003) (base.ch .c0)).getLsbD 11 = false ∧
      (newCommand (cmd 0x8003) (base.ch .c0)).getLsbD 12 = false ∧
      (newCommand (cmd 0x8003) (base.ch .c0)).getLsbD 7 = false ∧
      (newCommand (cmd 0x8003) (base.ch .c0)).getLsbD 6 = false ∧ (base.ch .c0).paper.isSome = true ∧
      base.placeWait = [] ∧ base.ownQueue.countP OwnEntry.isFetch < 12 ∧
      (shadowHostWrite (cmd 0x9000) .accepted base.shadow).read
        (2 * (base.wordAddr (.tape .c0) 0).toNat) = none ∧
      (shadowHostWrite (cmd 0x8003) .accepted base.shadow).read
        (2 * (base.wordAddr (.control .c0) 2).toNat) = none :=
  ⟨quiet _ _ rfl rfl rfl rfl rfl (by decide) rfl rfl rfl,
    quiet _ _ rfl rfl rfl rfl rfl (by decide) rfl rfl rfl, by decide, by decide, by decide, by decide,
    by decide, by decide, by decide, by decide, by decide, by decide, by decide⟩

/-- The length held, the mask words missing; the length of 160 held, the page words missing. -/
theorem witness_FetchesBegin_words :
    let s : State := { base with shadow := shadowOf 3000 [12] }
    let t : State := { base with shadow := shadowOf 1002 [160] }
    let none4 : List TakenWord := List.replicate 4 lackingWord
    (QuietGo (cmd 0x9000) .c0 s ∧ Holds (shadowHostWrite (cmd 0x9000) .accepted s.shadow)
        (s.wordAddr (.tape .c0) 0) 12 ∧ lackingMasks none4 .c0 12 s ≠ []) ∧
    (QuietGo (cmd 0x8003) .c0 t ∧ QuietGo (cmd 0x8041) .c0 t ∧
      Holds (shadowHostWrite (cmd 0x8003) .accepted t.shadow) (t.wordAddr (.control .c0) 2) 160 ∧
      lackingPages none4 .c0 false (min (160 : Word).toNat 160) t ≠ [] ∧
      (newCommand (cmd 0x8041) (t.ch .c0)).getLsbD 6 = true ∧
      (newCommand (cmd 0x8041) (t.ch .c0)).toNat % 16 = 1) :=
  ⟨⟨quiet _ _ rfl rfl rfl rfl rfl (by decide) rfl rfl rfl, ⟨by decide, by decide⟩, by decide⟩,
    quiet _ _ rfl rfl rfl rfl rfl (by decide) rfl rfl rfl,
    quiet _ _ rfl rfl rfl rfl rfl (by decide) rfl rfl rfl, ⟨by decide, by decide⟩, by decide, by decide,
    by decide⟩

/-- Memory's answer with two good bytes. -/
def good (hi lo : Byte) : ReadAnswer := .data ⟨freshByte hi, freshByte lo⟩

/-- An abandoned FETCH of a window's word and of none, a TALLY-WRITE into a window and into none. -/
theorem witness_OwnCycleEnds :
    let s : State := { base with ownCycle := some (.fetch (.abandoned .c0) ⟨2000, .page 0⟩) }
    let t : State := { base with ownCycle := some (.tally .c0 1003 5) }
    s.ownCycle = some (.fetch (.abandoned .c0) ⟨2000, .page 0⟩) ∧ (s.findWindow 2000).isSome = true ∧
      s.findWindow 5000 = none ∧ t.ownCycle = some (.tally .c0 1003 5) ∧
      (t.findWindow 1003).isSome = true ∧ t.findWindow 1004 = none := by decide

/-- A print whose record has a length of n, with fetches listed and outstanding. -/
def taking (n : Nat) (fetches : List FetchWord) (out : Nat) : Op :=
  ⟨.printSpace, false, 3, true, .takingLine (lineRec n fetches out), false⟩

/-- A page word's answer with another outstanding, with words listed, and the last one: of the line "AB", and
under CHECK of one damaged at both positions. -/
theorem witness_OwnCycleEnds_page :
    let f : FetchWord := ⟨2000, .page 0⟩
    let g : FetchWord := ⟨2001, .page 1⟩
    let c (op : Op) : Channel := { idle with state := .busy op }
    let s := { fetching (.operation .c0) f (c (taking 2 [] 1)) with
      setup := { SetupUnit.powerOn with translation := table } }
    let words (ans : ReadAnswer) := (lineRec 2 [] 1).words.set 0 (filledPage (lineRec 2 [] 1) 2 0 ans)
    Fetching .c0 f (.page 0) (taking 4 [] 2) (fetching (.operation .c0) f (c (taking 4 [] 2))) ∧
    (let t := { fetching (.operation .c0) f (c (taking 4 [g] 1)) with placeWait := [.operation .c0] }
     Fetching .c0 f (.page 0) (taking 4 [g] 1) t ∧ Requester.operation .c0 ∈ t.placeWait) ∧
    (Fetching .c0 f (.page 0) (taking 2 [] 1) s ∧ (s.ch .c0).policy ≠ .check ∧
      LineEnds .c0 (taking 2 [] 1) paper (takenEntry table (words (good 0x41 0x42))) 2 s) ∧
    0 < entryBad (takenEntry table (words .noResponse)) 2 :=
  ⟨fetchingOk rfl (by decide), ⟨⟨rfl, rfl, by decide, rfl⟩, by decide⟩,
    ⟨⟨rfl, rfl, by decide, rfl⟩, by decide, ⟨rfl, by decide⟩, ⟨rfl, paperOk⟩, .inr ⟨rfl, by decide⟩,
      .inl (by decide), rfl, rfl⟩, by decide⟩

/-- A print that awaits its line length, of which it has the low byte, 4. -/
def awaitsLength : LineRec :=
  { lineRec 0 [] 1 with length := none, lengthWord := ⟨none, some 4, false, false⟩ }

/-- A line length's answer, whole and damaged. -/
theorem witness_OwnCycleEnds_length :
    let f : FetchWord := ⟨1002, .lineLength⟩
    let op : Op := ⟨.printSpace, false, 3, true, .takingLine awaitsLength, false⟩
    let s := fetching (.operation .c0) f { idle with state := .busy op }
    let t := filled awaitsLength.lengthWord true true (good 0 9)
    Fetching .c0 f .lineLength op s ∧ op.stage = .takingLine awaitsLength ∧ awaitsLength.outstanding = 1 ∧
      s.placeWait = [] ∧ (t.hi = some 0 ∧ t.lo = some 4) ∧
      lackingPages awaitsLength.words .c0 op.vp (min (0#8 ++ 4#8 : Word).toNat 160) s ≠ [] ∧
      (filled awaitsLength.lengthWord true true .noResponse).hi = none ∧ (s.ch .c0).policy ≠ .check ∧
      LineEnds .c0 op paper (fun _ => .blank) 0 s ∧ op.linePlaced = false :=
  ⟨fetchingOk rfl (by decide), rfl, rfl, rfl, by decide, by decide, by decide, by decide,
    ⟨⟨rfl, by decide⟩, ⟨rfl, paperOk⟩, .inl (by decide), .inl (by decide), rfl, rfl⟩, rfl⟩

/-- A tape record of a known length 12 with one answer outstanding. -/
def lastMask : TapeRec :=
  ⟨some 12, ⟨some 0, some 12, false, false⟩ :: List.replicate 192 ⟨none, some 1, false, false⟩, [], 1⟩

/-- A tape length's answer that is damaged, 11, 193 and 12; a mask word's answer, with another outstanding and
the last one over an unused form. -/
theorem witness_OwnCycleEnds_tape :
    let f : FetchWord := ⟨3000, .tape 0⟩
    let g : FetchWord := ⟨3001, .tape (0 + 1)⟩
    let c := { idle with state := .busy shortLoad }
    let s := fetching (.operation .c0) f c
    let whole (ans : ReadAnswer) := filled ((⟨none, [lackingWord], [], 1⟩ : TapeRec).words.getD 0 lackingWord)
      true true ans
    let op (r : TapeRec) : Op := ⟨.loadTape, false, 0, true, .takingTape r, false⟩
    let t (r : TapeRec) := fetching (.operation .c0) g { idle with state := .busy (op r), paper := some blank }
    (Fetching .c0 f (.tape 0) shortLoad s ∧ (s.ch .c0).pendStop = false ∧ (s.ch .c0).pendEject = false ∧
      s.placeWait = [] ∧ (whole .noResponse).hi = none ∧
      whole (good 0 11) = ⟨some 0, some 11, false, false⟩ ∧ (0#8 ++ 11#8 : Word).toNat < 12 ∧
      whole (good 0 193) = ⟨some 0, some 193, false, false⟩ ∧ 192 < (0#8 ++ 193#8 : Word).toNat ∧
      whole (good 0 12) = ⟨some 0, some 12, false, false⟩ ∧ 12 ≤ (0#8 ++ 12#8 : Word).toNat ∧
      lackingMasks [whole (good 0 12)] .c0 12 s ≠ []) ∧
    (Fetching .c0 g (.tape (0 + 1)) (op { lastMask with outstanding := 2 })
      (t { lastMask with outstanding := 2 }) ∧ 2 ≤ ({ lastMask with outstanding := 2 } : TapeRec).outstanding) ∧
    (Fetching .c0 g (.tape (0 + 1)) (op lastMask) (t lastMask) ∧ lastMask.length = some 12 ∧
      lastMask.toFetch = [] ∧ lastMask.outstanding = 1 ∧ blank.pos = 0 ∧ blank.form.cellCount = 0) :=
  ⟨⟨fetchingOk rfl (by decide), rfl, rfl, rfl, by decide, by decide, by decide, by decide, by decide,
      by decide, by decide, by decide⟩,
    ⟨fetchingOk rfl (by decide), by decide⟩, fetchingOk rfl (by decide), rfl, rfl, rfl, rfl, by decide⟩

/-! ### Witnesses: setup records -/

/-- The write of the apply word. -/
def apply : BusWrite := put 65522 1

/-- The base state with another channel 0 and a record in the shadow. -/
def recState (ws : List Word) (c : Channel) : State := { withCh c with shadow := shadowOf 65504 ws }

theorem applyWrite (s : State) (hw : s.windows = base.windows) (h1 : s.ownCycle = none)
    (h2 : s.ownQueue = []) (h3 : s.presented = none) (ha : s.setup.apply = none) : ApplyWrite apply s :=
  ⟨passes _ h1 h2 h3, by
    have h : base.lookup 65522 = some (.setup, 18) := by decide
    unfold State.lookup State.findWindow at h ⊢
    rw [hw]
    exact h, ha⟩

theorem applyRec (ws : List Word) (c : Channel) : ApplyWrite apply (recState ws c) :=
  applyWrite _ rfl rfl rfl rfl rfl

/-- The words of a list as the values of a record. -/
def valuesOf (ws : List Word) (i : Nat) : Word := ws.getD i 0

/-- The listed words of a record written out from the setup window's base are held. -/
def heldWords (ws : List Word) (words : List Nat) : Bool :=
  words.all fun i =>
    let m := shadowHostWrite apply .accepted (shadowOf 65504 ws)
    let a := base.wordAddr .setup i
    decide (m.read (hiKey a) = some (hiByte (valuesOf ws i)) ∧
      m.read (loKey a) = some (loByte (valuesOf ws i)))

theorem recordHeld {ws : List Word} {words : List Nat} {c : Channel} (h : heldWords ws words = true) :
    RecordHeld apply .accepted (valuesOf ws) words (recState ws c) := by
  intro i hi
  have h2 := of_decide_eq_true (List.all_eq_true.1 h i hi)
  exact h2

/-- A record with no word valid, the kinds 0 and 8, and a write while a record is being applied. -/
theorem witness_PendingAndBadKind :
    (ApplyWrite apply base ∧
      (shadowHostWrite apply .accepted base.shadow).read (2 * (base.wordAddr .setup 0).toNat) = none ∧
      base.placeWait = [] ∧ base.ownQueue.countP OwnEntry.isFetch ≤ 10) ∧
    (∀ k ∈ [(0 : Word), 8], ApplyWrite apply (recState [k, 1] idle) ∧
      RecordHeld apply .accepted (valuesOf [k, 1]) [0, 1] (recState [k, 1] idle) ∧
      (k.toNat = 0 ∨ 7 < k.toNat)) ∧
    (let r : ApplyRec := ⟨[], [], 1⟩
     let s : State := { base with setup := { SetupUnit.powerOn with apply := some r } }
     Passes (.write apply) s ∧ s.lookup apply.addr = some (.setup, 18) ∧ s.setup.apply = some r) := by
  refine ⟨⟨applyWrite _ rfl rfl rfl rfl rfl, by decide, rfl, by decide⟩, ?_,
    passes _ rfl rfl rfl, by decide, rfl⟩
  intro k hk
  simp only [List.mem_cons, List.not_mem_nil, or_false] at hk
  refine ⟨applyRec _ _, ?_, ?_⟩ <;> rcases hk with rfl | rfl
  · exact recordHeld (by decide +kernel)
  · exact recordHeld (by decide +kernel)
  · exact .inl rfl
  · exact .inr (by decide)

/-- The setup unit's FETCH of word i in progress, for a record. -/
def recordFetching (i : Nat) (r : ApplyRec) (waiting : List Requester) : State :=
  { base with
    ownCycle := some (.fetch .setup ⟨base.wordAddr .setup i, .record i⟩), placeWait := waiting
    setup := { SetupUnit.powerOn with apply := some r } }

/-- A LINK record with words 0 and 1, the timeout missing. -/
def linkRec (out : Nat) : ApplyRec :=
  ⟨[⟨some 0, some 5, false, false⟩, ⟨some 0, some 1, false, false⟩, lackingWord], [], out⟩

/-- An answer for word 3 with another outstanding and with words listed; one that completes word 1, and
lists the timeout; a damaged word 0; the timeout's answers at 4, 5, 100 and 101, and a damaged one. -/
theorem witness_PendingAndBadKind_answers :
    let more : ApplyRec := ⟨[], [⟨65508, .record 4⟩], 1⟩
    let first : ApplyRec := ⟨[⟨some 0, some 5, false, false⟩, ⟨some 0, none, false, false⟩], [], 1⟩
    let timeout (ans : ReadAnswer) := filled ((linkRec 1).words.getD 2 lackingWord) true true ans
    (RecordFetching 3 ⟨65507, .record 3⟩ (linkRec 2) (recordFetching 3 (linkRec 2) []) ∧
      2 ≤ (linkRec 2).outstanding) ∧
    (RecordFetching 3 ⟨65507, .record 3⟩ more (recordFetching 3 more [.setup]) ∧ more.toFetch ≠ [] ∧
      Requester.setup ∈ (recordFetching 3 more [.setup]).placeWait) ∧
    (let words := first.words.set 1 (filled (first.words.getD 1 lackingWord) true true (good 7 7))
     RecordFetching 1 ⟨65505, .record 1⟩ first (recordFetching 1 first []) ∧ first.outstanding = 1 ∧
      (words.getD 0 lackingWord).hi = some 0 ∧ (words.getD 0 lackingWord).lo = some 5 ∧
      (words.getD 1 lackingWord).hi.isSome = true ∧ (words.getD 1 lackingWord).lo.isSome = true ∧
      lackingRecord words (payloadOf (0#8 ++ 5#8 : Word).toNat) base ≠ []) ∧
    (RecordFetching 0 ⟨65504, .record 0⟩ ⟨[], [], 1⟩ (recordFetching 0 ⟨[], [], 1⟩ []) ∧
      (filled (([] : List TakenWord).getD 0 lackingWord) true true .noResponse).hi = none) ∧
    (RecordFetching 2 ⟨65506, .record 2⟩ (linkRec 1) (recordFetching 2 (linkRec 1) []) ∧
      2 < (linkRec 1).words.length ∧ (linkRec 1).words.getD 0 lackingWord = ⟨some 0, some 5, false, false⟩ ∧
      timeout (good 0 4) = ⟨some 0, some 4, false, false⟩ ∧
      timeout (good 0 5) = ⟨some 0, some 5, false, false⟩ ∧
      timeout (good 0 100) = ⟨some 0, some 100, false, false⟩ ∧
      timeout (good 0 101) = ⟨some 0, some 101, false, false⟩ ∧ (timeout .noResponse).hi = none ∧
      (0#8 ++ 4#8 : Word).toNat < 5 ∧ 5 ≤ (0#8 ++ 5#8 : Word).toNat ∧ (0#8 ++ 100#8 : Word).toNat ≤ 100 ∧
      100 < (0#8 ++ 101#8 : Word).toNat) :=
  ⟨⟨⟨by decide, rfl, by decide, rfl⟩, by decide⟩, ⟨⟨by decide, rfl, by decide, rfl⟩, by decide, by decide⟩,
    ⟨⟨by decide, rfl, by decide, rfl⟩, rfl, by decide⟩, ⟨⟨by decide, rfl, by decide, rfl⟩, by decide⟩,
    ⟨by decide, rfl, by decide, rfl⟩, by decide⟩

/-- A CHANNEL record of channel t at three bases below 65,536. -/
def channelWords (t c p k : Word) : List Word := [1, t, 0, c, 0, p, 0, k, 1, 1, 63, -32]

def channelRec (t : ChannelId) (c p k : Addr) : ChannelRecord := ⟨t, c, p, k, .edge, .substitute, 63, -32⟩

theorem channelHeld (t c p k : Word) (h : RecordHeld apply .accepted (valuesOf (channelWords t c p k))
    (List.range 12) (recState (channelWords t c p k) idle)) (st : ChState) :
    RecordHeld apply .accepted (valuesOf (channelWords t c p k)) (List.range 12)
      (recState (channelWords t c p k) { idle with state := st }) := h

/-- The record of channel 0 and that of an OFFLINE channel, in IDLE and in HALTED; a clash; a target of
4. -/
theorem witness_ChannelRecordApplied :
    let x := channelRec .c0 5000 6000 7000
    let y := channelRec .c1 1003 6000 7000
    let ws := channelWords 0 5000 6000 7000
    let vs := channelWords 1 1003 6000 7000
    let zs := channelWords 4 5000 6000 7000
    (ApplyWrite apply (recState ws idle) ∧
      RecordHeld apply .accepted (valuesOf ws) (List.range 12) (recState ws idle) ∧
      ChannelWords (valuesOf ws) x ∧ ((recState ws idle).ch .c0).state = .idle ∧
      ¬ Clashes x (recState ws idle)) ∧
    ((recState ws { idle with state := .halted }).ch .c0).state = .halted ∧
    (RecordHeld apply .accepted (valuesOf vs) (List.range 12) (recState vs idle) ∧
      ChannelWords (valuesOf vs) y ∧ ((recState vs idle).ch .c1).state = .offline ∧
      Clashes y (recState vs idle)) ∧
    (RecordHeld apply .accepted (valuesOf zs) (List.range 12) (recState zs idle) ∧
      valuesOf zs 0 = 1 ∧ 3 < (valuesOf zs 1).toNat) := by
  refine ⟨⟨applyRec _ _, ?_, ?_, rfl, ?_⟩, rfl, ⟨?_, ?_, rfl, ?_⟩, ?_, rfl, by decide⟩
  · exact recordHeld (by decide +kernel)
  · exact ⟨rfl, rfl, by decide, by decide, by decide, .inr (.inl ⟨rfl, rfl⟩), .inr (.inl ⟨rfl, rfl⟩), rfl,
      by decide⟩
  · have key : ∀ (v w : Window), (v.base.toNat + v.role.length ≤ w.base.toNat ∨
        w.base.toNat + w.role.length ≤ v.base.toNat) → ¬ Share v w := by
      rintro v w h ⟨a, h1, h2⟩
      simp only [Window.covers, Bool.and_eq_true, decide_eq_true_eq] at h1 h2
      omega
    rintro (h | h | h | ⟨v, hv, _, h⟩)
    · exact key _ _ (by decide) h
    · exact key _ _ (by decide) h
    · exact key _ _ (by decide) h
    · simp only [recState, withCh, base, List.mem_cons, List.not_mem_nil, or_false] at hv
      rcases hv with rfl | rfl | rfl | rfl
      · rcases h with h | h | h <;> exact key _ _ (by decide) h
      all_goals contradiction
  · exact recordHeld (by decide +kernel)
  · exact ⟨rfl, rfl, by decide, by decide, by decide, .inr (.inl ⟨rfl, rfl⟩), .inr (.inl ⟨rfl, rfl⟩), rfl,
      by decide⟩
  · exact .inr (.inr (.inr ⟨⟨1000, .control .c0⟩, by decide, by decide, .inl ⟨1003, by decide, by decide⟩⟩))
  · exact recordHeld (by decide +kernel)

/-- Each range of a CHANNEL record passed by one. -/
theorem witness_ChannelRecordApplied_ranges :
    let ws := channelWords 0 5000 6000 7000
    let bad (i : Nat) (v : Word) := valuesOf (ws.set i v)
    (∀ x ∈ [(2, (16 : Word)), (4, 16), (6, 16), (8, 3), (9, 3), (10, 64), (11, -33), (11, 33)],
      heldWords (ws.set x.1 x.2) (List.range 12) = true ∧ valuesOf (ws.set x.1 x.2) 0 = 1) ∧
    15 < (bad 2 16 2).toNat ∧ 15 < (bad 4 16 4).toNat ∧ 15 < (bad 6 16 6).toNat ∧ 2 < (bad 8 3 8).toNat ∧
    2 < (bad 9 3 9).toNat ∧ 63 < (bad 10 64 10).toNat ∧ (bad 11 (-33) 11).toInt < -32 ∧
    32 < (bad 11 33 11).toInt ∧ 1048572 < (15 : Word).toNat * 65536 + (65533 : Word).toNat ∧
    1048416 < (15 : Word).toNat * 65536 + (65377 : Word).toNat ∧
    1048383 < (15 : Word).toNat * 65536 + (65344 : Word).toNat := by
  decide +kernel

/-- A LAYOUT record for channel 0 with n slots. -/
def layoutWords (px n : Word) : List Word := [2, 0, px, 1, 8192, n, 1, 2, 3, 4, 65535, 1, 255]

/-- Every field at the end of its range; a release, with and without room; pixels out of range. -/
theorem witness_LayoutRecordApplied :
    let l (two : Bool) : Layout := ⟨⟨255, 1, 8192, two, 1, 2, 3, 4, 65535, 1⟩, 255⟩
    let s := recState (layoutWords 255 2) idle
    let t := recState (layoutWords 255 1) (twoUp (some paper.form))
    (ApplyWrite apply s ∧ RecordHeld apply .accepted (valuesOf (layoutWords 255 2)) (List.range 13) s ∧
      LayoutWords (valuesOf (layoutWords 255 2)) .c0 (l true) ∧
      (s.ch .c0).layout.geo.twoUp = false) ∧
    (ApplyWrite apply t ∧ RecordHeld apply .accepted (valuesOf (layoutWords 255 1)) (List.range 13) t ∧
      LayoutWords (valuesOf (layoutWords 255 1)) .c0 (l false) ∧
      (t.ch .c0).layout.geo.twoUp = true ∧ (l false).geo.twoUp = false ∧
      (t.ch .c0).pendSheet = some paper.form ∧ t.queue.length < 8 ∧ t.cellWait = [] ∧
      8 ≤ (full t).queue.length) ∧
    (∀ px ∈ [(0 : Word), 256],
      RecordHeld apply .accepted (valuesOf (layoutWords px 1)) (List.range 13)
          (recState (layoutWords px 1) idle) ∧
        valuesOf (layoutWords px 1) 0 = 2 ∧ ((valuesOf (layoutWords px 1) 2).toNat = 0 ∨
          255 < (valuesOf (layoutWords px 1) 2).toNat)) := by
  refine ⟨⟨applyRec _ _, ?_, ?_, rfl⟩, ⟨applyRec _ _, ?_, ?_, rfl, rfl, rfl, by decide, rfl, by decide⟩, ?_⟩
  · exact recordHeld (by decide +kernel)
  · exact ⟨rfl, rfl, by decide, by decide, by decide, rfl, by decide, by decide, by decide, by decide⟩
  · exact recordHeld (by decide +kernel)
  · exact ⟨rfl, rfl, by decide, by decide, by decide, rfl, by decide, by decide, by decide, by decide⟩
  · intro px hpx
    simp only [List.mem_cons, List.not_mem_nil, or_false] at hpx
    rcases hpx with rfl | rfl <;> exact ⟨recordHeld (by decide +kernel), by decide, by decide⟩

/-- A record of a table from a first index, with one entry of its own and fifteen others. -/
def tableWords (kind first entry : Word) : List Word := [kind, first, entry] ++ List.replicate 15 63

/-- The last first indices and the ones after them, the last glyph and the first value that is none, the
reply timeouts 4, 5, 100 and 101. -/
theorem witness_TableRecords :
    (∀ ws ∈ [tableWords 3 240 254, tableWords 3 241 255, tableWords 3 0 64, tableWords 4 48 0,
        tableWords 4 49 0],
      ApplyWrite apply (recState ws idle) ∧
        RecordHeld apply .accepted (valuesOf ws) (List.range 18) (recState ws idle)) ∧
    TablesOk (recState [] idle) ∧
    (∀ j, j < 16 → (valuesOf (tableWords 3 240 254) (j + 2)).toNat ≤ 63 ∨
      valuesOf (tableWords 3 240 254) (j + 2) = 254 ∨ valuesOf (tableWords 3 240 254) (j + 2) = 255) ∧
    (0 < 16 ∧ 63 < (valuesOf (tableWords 3 0 64) (0 + 2)).toNat) ∧
    (∀ v ∈ [(4 : Word), 5, 100, 101],
      RecordHeld apply .accepted (valuesOf [5, 0, v]) [0, 1, 2] (recState [5, 0, v] idle)) := by
  refine ⟨?_, tables_powerOn, by decide, by decide, ?_⟩
  · intro ws hw
    simp only [List.mem_cons, List.not_mem_nil, or_false] at hw
    rcases hw with rfl | rfl | rfl | rfl | rfl <;>
      exact ⟨applyRec _ _, recordHeld (by decide +kernel)⟩
  · intro v hv
    simp only [List.mem_cons, List.not_mem_nil, or_false] at hv
    rcases hv with rfl | rfl | rfl | rfl <;> exact recordHeld (by decide +kernel)

/-- Channel 0 with a full and with a free queue, in BUSY; an OFFLINE channel; a target of 4. -/
theorem witness_DisableRecord :
    let s := recState [6, 0] { idle with state := .stopped }
    (∀ t ∈ [(0 : Word), 1, 3, 4], ApplyWrite apply (recState [6, t] idle) ∧
      RecordHeld apply .accepted (valuesOf [6, t]) [0, 1] (recState [6, t] idle) ∧
      valuesOf [6, t] 0 = 6) ∧
    3 < (valuesOf [6, 4] 1).toNat ∧ (valuesOf [6, 0] 1).toNat = ChannelId.c0.toNat ∧
    ((recState [6, 1] idle).ch .c1).state = .offline ∧
    ((recState [6, 0] { idle with state := .busy ejectOp }).ch .c0).state = .busy ejectOp ∧
    ((s.ch .c0).state = .stopped ∧ s.queue.length < 8 ∧ s.cellWait = [] ∧ (s.ch .c0).pendSheet = none ∧
      0 < (s.ch .c0).openCells ∧ 8 ≤ (full s).queue.length) := by
  refine ⟨?_, by decide, rfl, rfl, rfl, rfl, by decide, rfl, rfl, by decide, by decide⟩
  intro t ht
  simp only [List.mem_cons, List.not_mem_nil, or_false] at ht
  rcases ht with rfl | rfl | rfl | rfl <;> exact ⟨applyRec _ _, recordHeld (by decide +kernel), rfl⟩

/-- Channels 0 and 3, the device, and a target above it. -/
theorem witness_QueryRecord :
    ∀ t ∈ [(0 : Word), 3, 4, 5], ApplyWrite apply (recState [7, t] idle) ∧
      RecordHeld apply .accepted (valuesOf [7, t]) [0, 1] (recState [7, t] idle) ∧
      valuesOf [7, t] 0 = 7 := by
  intro t ht
  simp only [List.mem_cons, List.not_mem_nil, or_false] at ht
  rcases ht with rfl | rfl | rfl | rfl <;> exact ⟨applyRec _ _, recordHeld (by decide +kernel), rfl⟩

end Sys2Proof.Tests
end

section
/-! SUPPORT. When a presented host cycle passes at once, and what the passing of a read answers
(R120, R121, R127, R128, R132 to R134). -/

namespace Sys2Proof.Machine

open Sys2Proof.Claims

/-! ### The arbiter lets an unheld cycle go -/

theorem fetchPending_eq_false {s : State} {a : Addr} (hfree : s.ownCycle = none)
    (hno : ¬ FetchWaits a s) : s.fetchPending a = false := by
  have hqueue : s.ownQueue.any (OwnEntry.fetches a) = false := by
    rw [List.any_eq_false]
    intro e he hf
    cases e with
    | fetch req w => exact hno ⟨req, w, he, of_decide_eq_true hf⟩
    | tally ch b v => cases hf
  simp [State.fetchPending, hqueue, hfree]

theorem guardHold_eq_false {s : State} (h : s.ownQueue = [] ∨ s.passedOver < 32) :
    s.guardHold = false := by
  obtain hempty | hcount := h
  · simp [State.guardHold, hempty]
  · simp [State.guardHold, Config.guardLimit, Nat.not_le.mpr hcount]

theorem writeHold_eq_false {c : BusCycle} {s : State} (hfree : s.ownCycle = none)
    (hno : cycleWrites c = true → ¬ FetchWaits (cycleAddr c) s) : s.writeHold c = false := by
  cases hw : cycleWrites c with
  | false => simp [State.writeHold, hw]
  | true => simp [State.writeHold, fetchPending_eq_false hfree (hno hw)]

theorem Unheld.canPass {c : BusCycle} {s : State} (h : Unheld c s) : s.canPass c = true := by
  simp [State.canPass, h.free, guardHold_eq_false h.unguarded, writeHold_eq_false h.free h.unmatched]

theorem presentCycle_of_passes {c : BusCycle} {s : State} (h : Passes c s) (ans : CycleAnswer) :
    presentCycle c ans s = passCycle c ans s := by
  simp [presentCycle, h.alone, Unheld.canPass h.toUnheld]

/-! ### A read that passes -/

@[simp] theorem given_hostReply (c : BusCycle) (r : HostReply) (s : State) :
    (given c r s).hostReply = some r := rfl

@[simp] theorem given_ch (c : BusCycle) (r : HostReply) (s : State) (i : ChannelId) :
    (given c r s).ch i = s.ch i := by cases i <;> rfl

/-- The host is answered, and then the word's owner takes the report (R120, R121). -/
theorem passCycle_read (a : Addr) (ans : CycleAnswer) (s : State) :
    passCycle (.read a) ans s =
      reportRead a ans.read (given (.read a) ⟨some (s.readReply a ans.read), none⟩ s) := rfl

theorem exec_statusRead (a : Addr) (ans : ReadAnswer) (s : State) :
    exec (.statusRead a ans) s = .next (presentCycle (.read a) ⟨ans, .noResponse⟩ s) := rfl

theorem exec_statusRead_of_passes {a : Addr} {s : State} (h : Passes (.read a) s) (ans : ReadAnswer) :
    exec (.statusRead a ans) s =
      .next (reportRead a ans (given (.read a) ⟨some (s.readReply a ans), none⟩ s)) := by
  rw [exec_statusRead, presentCycle_of_passes h, passCycle_read]

/-- The status byte is forced into the high byte, and the low byte is memory's (R16, R127, R128). -/
theorem readReply_status {a : Addr} {ch : ChannelId} {s : State}
    (h : s.lookup a = some (.control ch, 1)) (m : BusWord) :
    s.readReply a (.data m) = .data ⟨forceByte m.hi (s.ch ch).statusByte, m.lo⟩ := by
  simp [State.readReply, State.forced, h, returnByte]

@[simp] theorem forceByte_val (m : BusByte) (v : Byte) : (forceByte m v).val = v := by
  unfold forceByte
  split
  · rfl
  · rfl

/-! ### The report of a read -/

@[simp] theorem statusTaken_ch_same (ch : ChannelId) (s : State) :
    (statusTaken ch s).ch ch = { s.ch ch with done := false, reject := false, request := false } :=
  State.ch_modCh_same ..

theorem statusTaken_ch_other (s : State) {ch i : ChannelId} (h : i ≠ ch) :
    (statusTaken ch s).ch i = s.ch i := State.ch_modCh_other s _ h

/-- The report clears DONE, REJECT and the done-request line at most, in any channel (R17). -/
theorem reportRead_ch (a : Addr) (ans : ReadAnswer) (s : State) (i : ChannelId) :
    (reportRead a ans s).ch i = s.ch i ∨
      (reportRead a ans s).ch i = { s.ch i with done := false, reject := false, request := false } := by
  unfold reportRead
  split
  next ch _ =>
    split
    · by_cases hi : i = ch
      · subst hi
        exact .inr (statusTaken_ch_same ..)
      · exact .inl (statusTaken_ch_other s hi)
    · exact .inl rfl
  next => exact .inl rfl

/-- Reading clears no carriage mark (R16, R17). -/
theorem reportRead_marks (a : Addr) (ans : ReadAnswer) (s : State) (i : ChannelId) :
    ((reportRead a ans s).ch i).overflow = (s.ch i).overflow ∧
      ((reportRead a ans s).ch i).ch9 = (s.ch i).ch9 := by
  obtain h | h := reportRead_ch a ans s i
  · simp [h]
  · simp [h]

end Sys2Proof.Machine
end

section
/-! PROOF. The status byte: its flags, its value at power-on, and the read that shows it (R16). -/

namespace Sys2Proof.Machine

open Sys2Proof.Claims

theorem ChState.isBusy_iff (st : ChState) : st.isBusy = true ↔ ∃ op, st = .busy op := by
  cases st with
  | busy op => simp [ChState.isBusy]
  | _ => simp [ChState.isBusy]

theorem Channel.stalled_eq_false_iff (c : Channel) : c.stalled = false ↔ c.stall < 300 := by
  rw [Channel.stalled, decide_eq_false_iff_not, Nat.not_le]
  rfl

/-- READY is lost to a stall in BUSY alone (R16, R21). -/
theorem Channel.ready_iff (c : Channel) :
    c.ready = true ↔ (c.state = .idle ∨ ((∃ op, c.state = .busy op) ∧ c.stall < 300)) := by
  cases h : c.state with
  | busy op => simp [Channel.ready, h, Channel.stalled_eq_false_iff]
  | _ => simp [Channel.ready, h]

/-- The flags from bit 0 up (R16). -/
def Channel.flags (c : Channel) : List Bool :=
  [c.done, c.reject, c.ch9, c.overflow, c.formStop, c.check, c.state.isBusy, c.ready]

theorem Channel.statusByte_getLsbD (c : Channel) (i : Nat) :
    c.statusByte.getLsbD i = c.flags.getD i false := by
  match i with
  | 0 | 1 | 2 | 3 | 4 | 5 | 6 | 7 =>
    simp only [Channel.statusByte, BitVec.getLsbD_append, BitVec.getLsbD_ofBool]
    rfl
  | n + 8 => simp [Channel.flags]

theorem Channel.powerOn_statusByte : Channel.powerOn.statusByte = 0 := by decide

theorem statusRead_shows_statusByte {a : Addr} {ch : ChannelId} {s : State} (m : BusWord)
    (hpass : Passes (.read a) s) (hword : s.lookup a = some (.control ch, 1)) :
    ∃ t b, exec (.statusRead a (.data m)) s = .next t ∧
      t.hostReply = some ⟨some (.data ⟨b, m.lo⟩), none⟩ ∧ b.val = (s.ch ch).statusByte ∧
      (t.ch ch).overflow = (s.ch ch).overflow ∧ (t.ch ch).ch9 = (s.ch ch).ch9 := by
  refine ⟨_, forceByte m.hi (s.ch ch).statusByte, exec_statusRead_of_passes hpass _, ?_,
    forceByte_val .., ?_⟩
  · rw [(reportRead_kept ..).hostReply, given_hostReply, readReply_status hword]
  · simpa using reportRead_marks a (.data m) (given (.read a) ⟨some (s.readReply a (.data m)), none⟩ s) ch

end Sys2Proof.Machine

namespace Sys2Proof

open Sys2Proof.Machine

/-- Settles O8: the flags bit by bit, the power-on value by evaluation, and the read as the host reply that
passing forces, followed by a report that clears no mark. -/
theorem statusByte : Obligations.StatusByte := by
  unfold Obligations.StatusByte
  refine ⟨fun c => ?_, Channel.powerOn_statusByte,
    fun _ _ m _ hpass hword => statusRead_shows_statusByte m hpass hword⟩
  simp only [Channel.statusByte_getLsbD]
  exact ⟨c.ready_iff, c.state.isBusy_iff, rfl, rfl, rfl, rfl, rfl, rfl⟩

end Sys2Proof
end

section
/-! SUPPORT. Lines of cells and forms as finite maps: what a strike list merged at a form line changes and
what it keeps (R62, R63, R65 to R67). -/

namespace Sys2Proof.Machine

open Sys2Proof.Claims

/-! ### One strike against a line of cells -/

/-- The cell of a column on a line of cells; `cellOf` is this on a form line. -/
def cellIn (cells : List PrintCell) (col : Nat) : Option PrintCell :=
  cells.find? fun c => decide (c.col = col)

theorem cellOf_eq_cellIn (f : Form) (line col : Nat) :
    cellOf f line col = cellIn (f.cellsAt line) col := rfl

@[simp] theorem cellIn_nil (col : Nat) : cellIn [] col = none := rfl

theorem cellIn_cons (c : PrintCell) (cells : List PrintCell) (col : Nat) :
    cellIn (c :: cells) col = if c.col = col then some c else cellIn cells col := by
  by_cases h : c.col = col <;> simp [cellIn, h]

theorem hasCell_eq_isSome_cellIn (cells : List PrintCell) (col : Nat) :
    hasCell cells col = (cellIn cells col).isSome :=
  List.isSome_find?.symm

/-- The cell that a strike leaves in its column: a new one, or the old one with the strike added while
there is room (R66). -/
def struckCell (k : Strike) : Option PrintCell → PrintCell
  | none => ⟨k.col, [k.glyph], none⟩
  | some c =>
    if c.strikes.length < Config.maxStrikes then { c with strikes := c.strikes ++ [k.glyph] } else c

/-- Cells in strictly ascending column (R63). -/
def CellsAscend (cells : List PrintCell) : Prop := cells.Pairwise fun a b => a.col < b.col

@[simp] theorem cellsAscend_nil : CellsAscend [] := List.Pairwise.nil

@[simp] theorem cellsAscend_cons {c : PrintCell} {cells : List PrintCell} :
    CellsAscend (c :: cells) ↔ (∀ d ∈ cells, c.col < d.col) ∧ CellsAscend cells :=
  List.pairwise_cons

theorem CellsAscend.lt_of_lt_head {c : PrintCell} {cells : List PrintCell} (h : CellsAscend (c :: cells))
    {col : Nat} (hlt : col < c.col) : ∀ d ∈ c :: cells, col < d.col :=
  List.forall_mem_cons.mpr ⟨hlt, fun d hd => hlt.trans ((cellsAscend_cons.mp h).1 d hd)⟩

theorem cellIn_eq_none_of_lt {cells : List PrintCell} {col : Nat} (h : ∀ c ∈ cells, col < c.col) :
    cellIn cells col = none := by
  rw [cellIn, List.find?_eq_none]
  intro c hc
  simpa using Nat.ne_of_gt (h c hc)

/-! The first cell of a line lies beyond the strike's column, in it, or before it. -/

theorem strikeCell_cons_of_lt {c : PrintCell} {k : Strike} (cells : List PrintCell) (h : k.col < c.col) :
    strikeCell (c :: cells) k = struckCell k none :: c :: cells := by
  simp [strikeCell, struckCell, h]

theorem strikeCell_cons_of_eq {c : PrintCell} {k : Strike} (cells : List PrintCell) (h : k.col = c.col) :
    strikeCell (c :: cells) k = struckCell k (some c) :: cells := by
  simp [strikeCell, struckCell, h]

theorem strikeCell_cons_of_gt {c : PrintCell} {k : Strike} (cells : List PrintCell) (h : c.col < k.col) :
    strikeCell (c :: cells) k = c :: strikeCell cells k := by
  simp [strikeCell, h.not_gt, h.ne']

theorem struckCell_some (k : Strike) (c : PrintCell) :
    struckCell k (some c) =
      if c.strikes.length < Config.maxStrikes then { c with strikes := c.strikes ++ [k.glyph] } else c :=
  rfl

@[simp] theorem struckCell_none_col (k : Strike) : (struckCell k none).col = k.col := rfl

@[simp] theorem struckCell_some_col (k : Strike) (c : PrintCell) :
    (struckCell k (some c)).col = c.col := by
  rw [struckCell_some]
  split
  · rfl
  · rfl

/-- What holds of every old cell, of a new cell and of a cell with room that takes a strike holds of every
cell after the strike. -/
theorem forall_mem_strikeCell {P : PrintCell → Prop} {k : Strike} (hnew : P (struckCell k none))
    (hadd : ∀ c, c.col = k.col → P c → P (struckCell k (some c))) {cells : List PrintCell}
    (hold : ∀ c ∈ cells, P c) : ∀ c ∈ strikeCell cells k, P c := by
  induction cells with
  | nil => exact List.forall_mem_singleton.mpr hnew
  | cons c cells ih =>
    obtain ⟨hc, hcells⟩ := List.forall_mem_cons.mp hold
    obtain hlt | heq | hgt := Nat.lt_trichotomy k.col c.col
    · rw [strikeCell_cons_of_lt cells hlt]
      exact List.forall_mem_cons.mpr ⟨hnew, hold⟩
    · rw [strikeCell_cons_of_eq cells heq]
      exact List.forall_mem_cons.mpr ⟨hadd c heq.symm hc, hcells⟩
    · rw [strikeCell_cons_of_gt cells hgt]
      exact List.forall_mem_cons.mpr ⟨hc, ih hcells⟩

theorem strikeCell_ascend (k : Strike) {cells : List PrintCell} (h : CellsAscend cells) :
    CellsAscend (strikeCell cells k) := by
  induction cells with
  | nil => simp [strikeCell]
  | cons c cells ih =>
    obtain ⟨hfirst, hrest⟩ := cellsAscend_cons.mp h
    obtain hlt | heq | hgt := Nat.lt_trichotomy k.col c.col
    · rw [strikeCell_cons_of_lt cells hlt]
      exact cellsAscend_cons.mpr ⟨h.lt_of_lt_head hlt, h⟩
    · rw [strikeCell_cons_of_eq cells heq]
      exact cellsAscend_cons.mpr ⟨by simpa using hfirst, hrest⟩
    · rw [strikeCell_cons_of_gt cells hgt]
      refine cellsAscend_cons.mpr ⟨forall_mem_strikeCell hgt (fun d _ hd => ?_) hfirst, ih hrest⟩
      simpa using hd

/-- A strike changes the cell of its column alone (R66). -/
theorem cellIn_strikeCell (k : Strike) {cells : List PrintCell} (h : CellsAscend cells) (col : Nat) :
    cellIn (strikeCell cells k) col =
      if k.col = col then some (struckCell k (cellIn cells col)) else cellIn cells col := by
  induction cells with
  | nil => simp [strikeCell, struckCell, cellIn_cons]
  | cons c cells ih =>
    obtain ⟨_, hrest⟩ := cellsAscend_cons.mp h
    obtain hlt | heq | hgt := Nat.lt_trichotomy k.col c.col
    · have hfree : cellIn (c :: cells) k.col = none := cellIn_eq_none_of_lt (h.lt_of_lt_head hlt)
      rw [strikeCell_cons_of_lt cells hlt, cellIn_cons, struckCell_none_col]
      split
      · next hcol => rw [← hcol, hfree]
      · rfl
    · rw [strikeCell_cons_of_eq cells heq]
      simp only [cellIn_cons, struckCell_some_col, heq]
      split
      · rfl
      · rfl
    · rw [strikeCell_cons_of_gt cells hgt]
      simp only [cellIn_cons, ih hrest]
      by_cases hcol : c.col = col
      · simp [hcol, (hcol ▸ hgt).ne']
      · simp [hcol]

/-- A strike makes a cell exactly where its column has none (R65, R66). -/
theorem length_strikeCell (k : Strike) {cells : List PrintCell} (h : CellsAscend cells) :
    (strikeCell cells k).length = cells.length + if hasCell cells k.col then 0 else 1 := by
  rw [hasCell_eq_isSome_cellIn]
  induction cells with
  | nil => rfl
  | cons c cells ih =>
    obtain ⟨_, hrest⟩ := cellsAscend_cons.mp h
    obtain hlt | heq | hgt := Nat.lt_trichotomy k.col c.col
    · have hfree : cellIn (c :: cells) k.col = none := cellIn_eq_none_of_lt (h.lt_of_lt_head hlt)
      simp [strikeCell_cons_of_lt cells hlt, hfree]
    · simp [strikeCell_cons_of_eq cells heq, cellIn_cons, heq]
    · simp [strikeCell_cons_of_gt cells hgt, cellIn_cons, hgt.ne, ih hrest, Nat.add_right_comm]

/-! ### A strike list against a line of cells -/

@[simp] theorem strikeLine_nil (cells : List PrintCell) : strikeLine cells [] = cells := rfl

@[simp] theorem strikeLine_cons (cells : List PrintCell) (k : Strike) (strikes : List Strike) :
    strikeLine cells (k :: strikes) = strikeLine (strikeCell cells k) strikes := rfl

/-- What every strike of a list keeps, the list keeps. -/
theorem strikeLine_induction {P : List PrintCell → Prop} {strikes : List Strike}
    (hstep : ∀ k ∈ strikes, ∀ cells, P cells → P (strikeCell cells k)) {cells : List PrintCell}
    (h : P cells) : P (strikeLine cells strikes) :=
  List.foldlRecOn strikes strikeCell h fun cells hcells k hk => hstep k hk cells hcells

/-- Strikes in strictly ascending column, so at most one a column (R37). -/
def StrikesAscend (strikes : List Strike) : Prop := strikes.Pairwise fun a b => a.col < b.col

@[simp] theorem strikesAscend_cons {k : Strike} {strikes : List Strike} :
    StrikesAscend (k :: strikes) ↔ (∀ j ∈ strikes, k.col < j.col) ∧ StrikesAscend strikes :=
  List.pairwise_cons

/-- The strike of a column in a strike list. -/
def strikeIn (strikes : List Strike) (col : Nat) : Option Strike :=
  strikes.find? fun k => decide (k.col = col)

theorem strikeIn_cons (k : Strike) (strikes : List Strike) (col : Nat) :
    strikeIn (k :: strikes) col = if k.col = col then some k else strikeIn strikes col := by
  by_cases h : k.col = col <;> simp [strikeIn, h]

theorem strikeIn_some_col {strikes : List Strike} {col : Nat} {k : Strike}
    (h : strikeIn strikes col = some k) : k.col = col :=
  of_decide_eq_true (List.find?_some (p := fun k : Strike => decide (k.col = col)) h)

theorem strikeIn_eq_none_of_lt {strikes : List Strike} {col : Nat} (h : ∀ k ∈ strikes, col < k.col) :
    strikeIn strikes col = none := by
  rw [strikeIn, List.find?_eq_none]
  intro k hk
  simpa using Nat.ne_of_gt (h k hk)

/-- The cell of a column after the list has met it: the strike of that column, if there is one, is taken
against the old cell, and the other strikes keep it (R66). -/
theorem cellIn_strikeLine {strikes : List Strike} (hs : StrikesAscend strikes) {cells : List PrintCell}
    (h : CellsAscend cells) (col : Nat) :
    cellIn (strikeLine cells strikes) col =
      match strikeIn strikes col with
      | none => cellIn cells col
      | some k => some (struckCell k (cellIn cells col)) := by
  induction strikes generalizing cells with
  | nil => rfl
  | cons k strikes ih =>
    obtain ⟨hfirst, hrest⟩ := strikesAscend_cons.mp hs
    rw [strikeLine_cons, ih hrest (strikeCell_ascend k h), cellIn_strikeCell k h, strikeIn_cons]
    split_ifs with hcol
    · rw [strikeIn_eq_none_of_lt (hcol ▸ hfirst)]
    · rfl

/-- A strike leaves the new cells that strikes of other columns need (R65). -/
theorem newCells_strikeCell {k : Strike} {strikes : List Strike} (hk : ∀ j ∈ strikes, k.col < j.col)
    {cells : List PrintCell} (h : CellsAscend cells) :
    newCells (strikeCell cells k) strikes = newCells cells strikes := by
  refine List.countP_congr fun j hj => ?_
  rw [hasCell_eq_isSome_cellIn, hasCell_eq_isSome_cellIn, cellIn_strikeCell k h,
    if_neg (hk j hj).ne]

theorem newCells_cons (cells : List PrintCell) (k : Strike) (strikes : List Strike) :
    newCells cells (k :: strikes) =
      newCells cells strikes + if hasCell cells k.col then 0 else 1 := by
  rw [newCells, List.countP_cons]
  cases hasCell cells k.col <;> rfl

theorem length_strikeLine {strikes : List Strike} (hs : StrikesAscend strikes) {cells : List PrintCell}
    (h : CellsAscend cells) :
    (strikeLine cells strikes).length = cells.length + newCells cells strikes := by
  induction strikes generalizing cells with
  | nil => rfl
  | cons k strikes ih =>
    obtain ⟨hfirst, hrest⟩ := strikesAscend_cons.mp hs
    rw [strikeLine_cons, ih hrest (strikeCell_ascend k h), newCells_strikeCell hfirst h,
      length_strikeCell k h, newCells_cons]
    omega

/-- A line of cells as an open form holds it: in ascending column, each cell within the bounds of R62 and
without coordinates. -/
structure CellsOpen (cells : List PrintCell) : Prop where
  ascend : CellsAscend cells
  cellOk : ∀ c ∈ cells, CellOk c
  unplaced : ∀ c ∈ cells, c.xy = none

theorem struckCell_none_ok {k : Strike} (hk : k.col < Config.columns) : CellOk (struckCell k none) :=
  ⟨hk, Nat.le_refl 1, show 1 ≤ Config.maxStrikes by decide⟩

theorem struckCell_some_ok (k : Strike) {c : PrintCell} (h : CellOk c) :
    CellOk (struckCell k (some c)) := by
  obtain ⟨hcol, hpos, hmax⟩ := h
  rw [struckCell_some]
  split
  · next hroom => exact ⟨hcol, by simp, by simpa using hroom⟩
  · exact ⟨hcol, hpos, hmax⟩

theorem struckCell_some_unplaced (k : Strike) {c : PrintCell} (h : c.xy = none) :
    (struckCell k (some c)).xy = none := by
  rw [struckCell_some]
  split
  · exact h
  · exact h

theorem CellsOpen.strikeCell {k : Strike} (hk : k.col < Config.columns) {cells : List PrintCell}
    (h : CellsOpen cells) : CellsOpen (strikeCell cells k) where
  ascend := strikeCell_ascend k h.ascend
  cellOk := forall_mem_strikeCell (struckCell_none_ok hk) (fun _ _ => struckCell_some_ok k) h.cellOk
  unplaced := forall_mem_strikeCell (P := (·.xy = none)) rfl (fun _ _ => struckCell_some_unplaced k) h.unplaced

theorem CellsOpen.strikeLine {strikes : List Strike} (hs : ∀ k ∈ strikes, k.col < Config.columns)
    {cells : List PrintCell} (h : CellsOpen cells) : CellsOpen (strikeLine cells strikes) :=
  strikeLine_induction (fun k hk _ hcells => hcells.strikeCell (hs k hk)) h

/-! ### The lines of a form -/

/-- The cells of a line index among form lines; `Form.cellsAt` is this on a form's lines. -/
def lineCells : List FormLine → Nat → List PrintCell
  | [], _ => []
  | l :: lines, i => if l.index = i then l.cells else lineCells lines i

theorem Form.cellsAt_eq_lineCells (f : Form) (i : Nat) : f.cellsAt i = lineCells f.lines i := by
  obtain ⟨tapeLength, firstLine, lines⟩ := f
  unfold Form.cellsAt
  induction lines with
  | nil => rfl
  | cons l lines ih => by_cases h : l.index = i <;> simp [lineCells, h, ih]

/-- Lines in strictly ascending index (R63). -/
def LinesAscend (lines : List FormLine) : Prop := lines.Pairwise fun a b => a.index < b.index

@[simp] theorem linesAscend_nil : LinesAscend [] := List.Pairwise.nil

@[simp] theorem linesAscend_cons {l : FormLine} {lines : List FormLine} :
    LinesAscend (l :: lines) ↔ (∀ m ∈ lines, l.index < m.index) ∧ LinesAscend lines :=
  List.pairwise_cons

theorem LinesAscend.lt_of_lt_head {l : FormLine} {lines : List FormLine} (h : LinesAscend (l :: lines))
    {i : Nat} (hlt : i < l.index) : ∀ m ∈ l :: lines, i < m.index :=
  List.forall_mem_cons.mpr ⟨hlt, fun m hm => hlt.trans ((linesAscend_cons.mp h).1 m hm)⟩

theorem lineCells_eq_nil_of_lt {lines : List FormLine} {i : Nat} (h : ∀ l ∈ lines, i < l.index) :
    lineCells lines i = [] := by
  induction lines with
  | nil => rfl
  | cons l lines ih =>
    obtain ⟨hl, hlines⟩ := List.forall_mem_cons.mp h
    rw [lineCells, if_neg hl.ne', ih hlines]

theorem lineCells_eq_nil_or_mem (lines : List FormLine) (i : Nat) :
    lineCells lines i = [] ∨ ⟨i, lineCells lines i⟩ ∈ lines := by
  induction lines with
  | nil => exact .inl rfl
  | cons l lines ih =>
    by_cases h : l.index = i
    · subst h
      exact .inr (by simp [lineCells])
    · simpa [lineCells, h] using ih.imp_right .inr

theorem setCells_cons_of_lt {l : FormLine} {i : Nat} (lines : List FormLine) (cells : List PrintCell)
    (h : i < l.index) : setCells (l :: lines) i cells = ⟨i, cells⟩ :: l :: lines := by
  simp [setCells, h]

theorem setCells_cons_of_eq {l : FormLine} {i : Nat} (lines : List FormLine) (cells : List PrintCell)
    (h : i = l.index) : setCells (l :: lines) i cells = ⟨i, cells⟩ :: lines := by
  simp [setCells, h]

theorem setCells_cons_of_gt {l : FormLine} {i : Nat} (lines : List FormLine) (cells : List PrintCell)
    (h : l.index < i) : setCells (l :: lines) i cells = l :: setCells lines i cells := by
  simp [setCells, h.not_gt, h.ne']

theorem forall_mem_setCells {P : FormLine → Prop} {i : Nat} {cells : List PrintCell}
    (hset : P ⟨i, cells⟩) {lines : List FormLine} (hold : ∀ l ∈ lines, P l) :
    ∀ l ∈ setCells lines i cells, P l := by
  induction lines with
  | nil => exact List.forall_mem_singleton.mpr hset
  | cons l lines ih =>
    obtain ⟨hl, hlines⟩ := List.forall_mem_cons.mp hold
    obtain hlt | heq | hgt := Nat.lt_trichotomy i l.index
    · rw [setCells_cons_of_lt lines cells hlt]
      exact List.forall_mem_cons.mpr ⟨hset, hold⟩
    · rw [setCells_cons_of_eq lines cells heq]
      exact List.forall_mem_cons.mpr ⟨hset, hlines⟩
    · rw [setCells_cons_of_gt lines cells hgt]
      exact List.forall_mem_cons.mpr ⟨hl, ih hlines⟩

theorem setCells_ascend (i : Nat) (cells : List PrintCell) {lines : List FormLine}
    (h : LinesAscend lines) : LinesAscend (setCells lines i cells) := by
  induction lines with
  | nil => simp [setCells]
  | cons l lines ih =>
    obtain ⟨hfirst, hrest⟩ := linesAscend_cons.mp h
    obtain hlt | rfl | hgt := Nat.lt_trichotomy i l.index
    · rw [setCells_cons_of_lt lines cells hlt]
      exact linesAscend_cons.mpr ⟨h.lt_of_lt_head hlt, h⟩
    · rw [setCells_cons_of_eq lines cells rfl]
      exact linesAscend_cons.mpr ⟨hfirst, hrest⟩
    · rw [setCells_cons_of_gt lines cells hgt]
      exact linesAscend_cons.mpr ⟨forall_mem_setCells hgt hfirst, ih hrest⟩

/-- Setting one line's cells keeps every other line's. -/
theorem lineCells_setCells (lines : List FormLine) (i : Nat) (cells : List PrintCell) (j : Nat) :
    lineCells (setCells lines i cells) j = if i = j then cells else lineCells lines j := by
  induction lines with
  | nil => rfl
  | cons l lines ih =>
    obtain hlt | rfl | hgt := Nat.lt_trichotomy i l.index
    · rw [setCells_cons_of_lt lines cells hlt, lineCells]
    · rw [setCells_cons_of_eq lines cells rfl, lineCells, lineCells]
      split
      · rfl
      · rfl
    · rw [setCells_cons_of_gt lines cells hgt, lineCells, lineCells, ih]
      by_cases hj : l.index = j
      · simp [hj, (hj ▸ hgt).ne']
      · simp [hj]

/-- The cells of a form's lines, counted. -/
def linesCellCount (lines : List FormLine) : Nat := (lines.map fun l => l.cells.length).sum

theorem Form.cellCount_eq_linesCellCount (f : Form) : f.cellCount = linesCellCount f.lines := rfl

@[simp] theorem linesCellCount_cons (l : FormLine) (lines : List FormLine) :
    linesCellCount (l :: lines) = l.cells.length + linesCellCount lines := by
  simp [linesCellCount]

/-- The set cells replace those of their index in the count. -/
theorem linesCellCount_setCells (i : Nat) (cells : List PrintCell) {lines : List FormLine}
    (h : LinesAscend lines) :
    linesCellCount (setCells lines i cells) + (lineCells lines i).length =
      linesCellCount lines + cells.length := by
  induction lines with
  | nil => simp [setCells, lineCells, linesCellCount]
  | cons l lines ih =>
    obtain ⟨_, hrest⟩ := linesAscend_cons.mp h
    obtain hlt | rfl | hgt := Nat.lt_trichotomy i l.index
    · have hfree : lineCells (l :: lines) i = [] := lineCells_eq_nil_of_lt (h.lt_of_lt_head hlt)
      simp only [setCells_cons_of_lt lines cells hlt, hfree, linesCellCount_cons, List.length_nil]
      omega
    · simp only [setCells_cons_of_eq lines cells rfl, lineCells, if_true, linesCellCount_cons]
      omega
    · have hcount := ih hrest
      simp only [setCells_cons_of_gt lines cells hgt, lineCells, hgt.ne, if_false, linesCellCount_cons]
      omega

/-! ### A strike list against a form -/

@[simp] theorem Form.merge_tapeLength (f : Form) (line : Nat) (strikes : List Strike) :
    (f.merge line strikes).tapeLength = f.tapeLength := by
  unfold Form.merge
  split
  · rfl
  · rfl

@[simp] theorem Form.merge_firstLine (f : Form) (line : Nat) (strikes : List Strike) :
    (f.merge line strikes).firstLine = f.firstLine := by
  unfold Form.merge
  split
  · rfl
  · rfl

/-- The lines after a merge: an empty list makes no form line (R65). -/
theorem Form.merge_lines (f : Form) (line : Nat) (strikes : List Strike) :
    (f.merge line strikes).lines =
      if strikes = [] then f.lines else setCells f.lines line (strikeLine (f.cellsAt line) strikes) := by
  cases strikes with
  | nil => rfl
  | cons k strikes => rfl

theorem Form.cellsAt_merge_same (f : Form) (line : Nat) (strikes : List Strike) :
    (f.merge line strikes).cellsAt line = strikeLine (f.cellsAt line) strikes := by
  rw [Form.cellsAt_eq_lineCells, Form.merge_lines]
  split
  · next hempty => rw [hempty, strikeLine_nil, Form.cellsAt_eq_lineCells]
  · rw [lineCells_setCells, if_pos rfl]

theorem Form.cellsAt_merge_other (f : Form) {line i : Nat} (h : i ≠ line) (strikes : List Strike) :
    (f.merge line strikes).cellsAt i = f.cellsAt i := by
  rw [Form.cellsAt_eq_lineCells, Form.cellsAt_eq_lineCells, Form.merge_lines]
  split
  · rfl
  · rw [lineCells_setCells, if_neg h.symm]

/-- The cells of an open form's line; a form without the line has none there. -/
theorem Form.cellsAt_open {f : Form} (hf : FormOk f) (hu : FormUnplaced f) (line : Nat) :
    CellsOpen (f.cellsAt line) := by
  rw [Form.cellsAt_eq_lineCells]
  obtain hnil | hmem := lineCells_eq_nil_or_mem f.lines line
  · rw [hnil]
    exact ⟨cellsAscend_nil, by simp, by simp⟩
  · obtain ⟨_, hlines⟩ := hf
    obtain ⟨⟨_, hascend, hcells⟩, _⟩ := hlines _ hmem
    exact ⟨hascend, hcells, hu _ hmem⟩

theorem Form.cellCount_merge {f : Form} (hf : FormOk f) (hu : FormUnplaced f) (line : Nat)
    {strikes : List Strike} (hs : StrikesOk strikes) :
    (f.merge line strikes).cellCount = f.cellCount + newCells (f.cellsAt line) strikes := by
  rw [Form.cellCount_eq_linesCellCount, Form.cellCount_eq_linesCellCount, Form.merge_lines]
  split
  · next hempty =>
    rw [hempty]
    rfl
  · have hset := linesCellCount_setCells line (strikeLine (f.cellsAt line) strikes) hf.1
    rw [length_strikeLine hs.1 (f.cellsAt_open hf hu line).ascend, ← Form.cellsAt_eq_lineCells] at hset
    omega

theorem strikeCell_ne_nil (cells : List PrintCell) (k : Strike) : strikeCell cells k ≠ [] := by
  cases cells with
  | nil => simp [strikeCell]
  | cons c cells =>
    unfold strikeCell
    split_ifs <;> simp

/-- A list with a strike leaves a cell on its line (R63, R66). -/
theorem strikeLine_ne_nil (cells : List PrintCell) {strikes : List Strike} (h : strikes ≠ []) :
    strikeLine cells strikes ≠ [] := by
  cases strikes with
  | nil => exact absurd rfl h
  | cons k strikes =>
    exact strikeLine_induction (P := (· ≠ [])) (strikes := strikes)
      (fun j _ cells _ => strikeCell_ne_nil cells j) (strikeCell_ne_nil cells k)

/-- A merge at a line of the form's span keeps the form in order (R62, R63). -/
theorem FormOk.merge {f : Form} (hf : FormOk f) (hu : FormUnplaced f) {line : Nat}
    (hfirst : f.firstLine ≤ line) (hlast : line < f.tapeLength) {strikes : List Strike}
    (hs : StrikesOk strikes) : FormOk (f.merge line strikes) ∧ FormUnplaced (f.merge line strikes) := by
  obtain ⟨hascend, hlines⟩ := hf
  unfold FormOk FormUnplaced
  rw [Form.merge_lines, Form.merge_firstLine, Form.merge_tapeLength]
  split
  · exact ⟨⟨hascend, hlines⟩, hu⟩
  · next hne =>
    have hopen : CellsOpen (strikeLine (f.cellsAt line) strikes) :=
      (f.cellsAt_open ⟨hascend, hlines⟩ hu line).strikeLine hs.2
    have hline : LineOk ⟨line, strikeLine (f.cellsAt line) strikes⟩ :=
      ⟨strikeLine_ne_nil _ hne, hopen.ascend, hopen.cellOk⟩
    exact ⟨⟨setCells_ascend line _ hascend, forall_mem_setCells ⟨hline, hfirst, hlast⟩ hlines⟩,
      forall_mem_setCells hopen.unplaced hu⟩

theorem PaperOk.struck {p : Paper} (hp : PaperOk p) {strikes : List Strike} (hs : StrikesOk strikes) :
    PaperOk (struck p strikes) := by
  obtain ⟨htape, hpos, hform, hunplaced, hlength, hfirst⟩ := hp
  obtain ⟨hform', hunplaced'⟩ := hform.merge hunplaced hfirst (hlength ▸ hpos) hs
  exact ⟨htape, hpos, hform', hunplaced', (Form.merge_tapeLength ..).trans hlength,
    (Form.merge_firstLine ..).trans_le hfirst⟩

/-- The cell of a column at the carriage's position, from the strike of that column and the old cell. -/
theorem cellOf_struck_pos {p : Paper} (hp : PaperOk p) {strikes : List Strike} (hs : StrikesOk strikes)
    (col : Nat) :
    cellOf (struck p strikes).form p.pos col =
      match strikeIn strikes col with
      | none => cellOf p.form p.pos col
      | some k => some (struckCell k (cellOf p.form p.pos col)) := by
  obtain ⟨_, _, hform, hunplaced, _, _⟩ := hp
  have hopen := p.form.cellsAt_open hform hunplaced p.pos
  rw [cellOf_eq_cellIn, show (struck p strikes).form = p.form.merge p.pos strikes from rfl,
    Form.cellsAt_merge_same, cellIn_strikeLine hs.1 hopen.ascend]
  rfl

theorem cellOf_struck_other (p : Paper) (strikes : List Strike) {line : Nat} (h : line ≠ p.pos)
    (col : Nat) : cellOf (struck p strikes).form line col = cellOf p.form line col :=
  congrArg (cellIn · col) (p.form.cellsAt_merge_other h strikes)

end Sys2Proof.Machine

namespace Sys2Proof

open Sys2Proof.Machine Sys2Proof.Claims

/-- Settles O22: lines of cells and forms are ascending finite maps, in which a strike list changes the
struck columns of one line. -/
theorem mergeCells : Obligations.MergeCells := by
  unfold Obligations.MergeCells
  intro p strikes hp hs
  have ⟨_, _, hform, hunplaced, _, _⟩ := hp
  refine ⟨fun col => ?_, fun line col h => cellOf_struck_other p strikes h col,
    Form.cellCount_merge hform hunplaced p.pos hs, hp.struck hs⟩
  rw [cellOf_struck_pos hp hs, strikeIn]
  cases hk : strikes.find? fun k => decide (k.col = col) with
  | none => rfl
  | some k =>
    have hcol : k.col = col := strikeIn_some_col hk
    cases cellOf p.form p.pos col with
    | none => exact hcol ▸ rfl
    | some c => rfl

end Sys2Proof
end

section
/-! SUPPORT. A placed form as a finite map: which cells placement keeps, with which coordinates, and how
many it clips (R85, R87 to R91). -/

namespace Sys2Proof.Machine

open Sys2Proof.Claims

/-! ### One coordinate -/

/-- Half of 4,096 added before the quotient rounds to the nearest dot, a half going up (R88). -/
theorem nearest_scaled (n p scale : Nat) : Nearest (n * p * scale) (scaled n p scale) := by
  unfold Nearest scaled
  generalize n * p * scale = d
  omega

theorem Geometry.onSheet_iff (g : Geometry) (slot1 : Bool) (line col : Nat) :
    g.onSheet slot1 line col = true ↔ g.cellX slot1 col < g.width ∧ g.cellY slot1 line < g.height := by
  rw [Geometry.onSheet, Bool.and_eq_true, decide_eq_true_iff, decide_eq_true_iff]

/-! ### A placed line -/

/-- A cell of a form line with its coordinates (R87). -/
def Geometry.placeCell (g : Geometry) (slot1 : Bool) (line : Nat) (c : PrintCell) : PrintCell :=
  { c with xy := some (g.cellX slot1 c.col, g.cellY slot1 line) }

@[simp] theorem Geometry.placeCell_col (g : Geometry) (slot1 : Bool) (line : Nat) (c : PrintCell) :
    (g.placeCell slot1 line c).col = c.col := rfl

@[simp] theorem placeLine_index (g : Geometry) (slot1 : Bool) (l : FormLine) :
    (placeLine g slot1 l).index = l.index := rfl

theorem placeLine_cells (g : Geometry) (slot1 : Bool) (l : FormLine) :
    (placeLine g slot1 l).cells =
      (l.cells.filter fun c => g.onSheet slot1 l.index c.col).map (g.placeCell slot1 l.index) := rfl

theorem length_placeLine_cells_le (g : Geometry) (slot1 : Bool) (l : FormLine) :
    (placeLine g slot1 l).cells.length ≤ l.cells.length := by
  rw [placeLine_cells, List.length_map]
  exact List.length_filter_le ..

/-- A choice of cells by column keeps a column's cell or removes it. -/
theorem cellIn_filter_col (keep : Nat → Bool) (cells : List PrintCell) (col : Nat) :
    cellIn (cells.filter fun c => keep c.col) col = if keep col then cellIn cells col else none := by
  induction cells with
  | nil => simp
  | cons c cells ih =>
    rw [List.filter_cons, cellIn_cons]
    by_cases hcol : c.col = col
    · subst hcol
      by_cases hkeep : keep c.col = true
      · simp [hkeep, cellIn_cons]
      · simpa [hkeep] using ih
    · rw [if_neg hcol, ← ih]
      split
      · rw [cellIn_cons, if_neg hcol]
      · rfl

theorem cellIn_map_placeCell (g : Geometry) (slot1 : Bool) (line : Nat) (cells : List PrintCell)
    (col : Nat) :
    cellIn (cells.map (g.placeCell slot1 line)) col = (cellIn cells col).map (g.placeCell slot1 line) :=
  List.find?_map ..

/-- Clipping looks at the line and the column alone (R90). -/
theorem cellIn_placeLine (g : Geometry) (slot1 : Bool) (l : FormLine) (col : Nat) :
    cellIn (placeLine g slot1 l).cells col =
      if g.onSheet slot1 l.index col then (cellIn l.cells col).map (g.placeCell slot1 l.index)
      else none := by
  rw [placeLine_cells, cellIn_map_placeCell, cellIn_filter_col (g.onSheet slot1 l.index)]
  split
  · rfl
  · rfl

/-! ### The lines of a placed form -/

/-- The form lines that hold a cell: the others are removed (R90). -/
def nonemptyLines (lines : List FormLine) : List FormLine := lines.filter fun l => !l.cells.isEmpty

theorem placeForm_lines (g : Geometry) (slot1 : Bool) (f : Form) :
    (placeForm g slot1 f).lines = nonemptyLines (f.lines.map (placeLine g slot1)) := rfl

theorem nonemptyLines_cons_of_nil {l : FormLine} (lines : List FormLine) (h : l.cells = []) :
    nonemptyLines (l :: lines) = nonemptyLines lines := by
  simp [nonemptyLines, h]

theorem nonemptyLines_cons_of_ne_nil {l : FormLine} (lines : List FormLine) (h : l.cells ≠ []) :
    nonemptyLines (l :: lines) = l :: nonemptyLines lines := by
  simp [nonemptyLines, h]

theorem mem_of_mem_nonemptyLines {l : FormLine} {lines : List FormLine} (h : l ∈ nonemptyLines lines) :
    l ∈ lines := List.mem_of_mem_filter h

/-- Removing an empty line uncovers no other line of its index, since there is none. -/
theorem lineCells_nonemptyLines {lines : List FormLine} (h : LinesAscend lines) (i : Nat) :
    lineCells (nonemptyLines lines) i = lineCells lines i := by
  induction lines with
  | nil => rfl
  | cons l lines ih =>
    obtain ⟨hfirst, hrest⟩ := linesAscend_cons.mp h
    by_cases hempty : l.cells = []
    · rw [nonemptyLines_cons_of_nil lines hempty, lineCells]
      split
      · next hi =>
        rw [hempty, lineCells_eq_nil_of_lt fun m hm => hi ▸ hfirst m (mem_of_mem_nonemptyLines hm)]
      · exact ih hrest
    · rw [nonemptyLines_cons_of_ne_nil lines hempty, lineCells, lineCells, ih hrest]

theorem linesCellCount_nonemptyLines (lines : List FormLine) :
    linesCellCount (nonemptyLines lines) = linesCellCount lines := by
  induction lines with
  | nil => rfl
  | cons l lines ih =>
    by_cases hempty : l.cells = []
    · rw [nonemptyLines_cons_of_nil lines hempty, linesCellCount_cons, hempty, ih, List.length_nil,
        Nat.zero_add]
    · rw [nonemptyLines_cons_of_ne_nil lines hempty, linesCellCount_cons, linesCellCount_cons, ih]

theorem LinesAscend.map_placeLine {lines : List FormLine} (h : LinesAscend lines) (g : Geometry)
    (slot1 : Bool) : LinesAscend (lines.map (placeLine g slot1)) :=
  List.pairwise_map.mpr h

theorem lineCells_map_placeLine (g : Geometry) (slot1 : Bool) (lines : List FormLine) (i : Nat) :
    lineCells (lines.map (placeLine g slot1)) i = (placeLine g slot1 ⟨i, lineCells lines i⟩).cells := by
  induction lines with
  | nil => rfl
  | cons l lines ih =>
    by_cases hi : l.index = i
    · subst hi
      simp [lineCells]
    · simpa [lineCells, hi] using ih

theorem linesCellCount_map_placeLine_le (g : Geometry) (slot1 : Bool) (lines : List FormLine) :
    linesCellCount (lines.map (placeLine g slot1)) ≤ linesCellCount lines := by
  induction lines with
  | nil => rfl
  | cons l lines ih =>
    rw [List.map_cons, linesCellCount_cons, linesCellCount_cons]
    exact Nat.add_le_add (length_placeLine_cells_le g slot1 l) ih

/-! ### A placed form -/

theorem cellsAt_placeForm (g : Geometry) (slot1 : Bool) {f : Form} (hf : FormOk f) (i : Nat) :
    (placeForm g slot1 f).cellsAt i = (placeLine g slot1 ⟨i, f.cellsAt i⟩).cells := by
  have hascend : LinesAscend f.lines := hf.1
  rw [Form.cellsAt_eq_lineCells, Form.cellsAt_eq_lineCells, placeForm_lines,
    lineCells_nonemptyLines (hascend.map_placeLine g slot1), lineCells_map_placeLine]

/-- Placement cell by cell: a cell on the sheet is kept with its coordinates, any other is clipped. -/
theorem cellOf_placeForm (g : Geometry) (slot1 : Bool) {f : Form} (hf : FormOk f) (line col : Nat) :
    cellOf (placeForm g slot1 f) line col =
      if g.onSheet slot1 line col then (cellOf f line col).map (g.placeCell slot1 line) else none := by
  rw [cellOf_eq_cellIn, cellsAt_placeForm g slot1 hf, cellIn_placeLine, cellOf_eq_cellIn]

theorem cellCount_placeForm_le (g : Geometry) (slot1 : Bool) (f : Form) :
    (placeForm g slot1 f).cellCount ≤ f.cellCount := by
  rw [Form.cellCount_eq_linesCellCount, Form.cellCount_eq_linesCellCount, placeForm_lines,
    linesCellCount_nonemptyLines]
  exact linesCellCount_map_placeLine_le g slot1 f.lines

theorem cellCount_placeForm_add_clippedCells (g : Geometry) (slot1 : Bool) (f : Form) :
    (placeForm g slot1 f).cellCount + clippedCells g slot1 f = f.cellCount :=
  Nat.add_sub_of_le (cellCount_placeForm_le g slot1 f)

theorem cellOf_some_col {f : Form} {line col : Nat} {c : PrintCell} (h : cellOf f line col = some c) :
    c.col = col := by
  simpa using List.find?_some h

end Sys2Proof.Machine

namespace Sys2Proof

open Sys2Proof.Machine Sys2Proof.Claims

/-- Settles O23: `scaled` rounds a half up, and a placed form is the form's finite map restricted to the
cells on the sheet. -/
theorem placement : Obligations.Placement := by
  unfold Obligations.Placement
  refine fun g slot1 f hf => ⟨fun line col c hc => ?kept, fun line col hnone => ?absent,
    cellCount_placeForm_add_clippedCells g slot1 f⟩
  case kept =>
    refine ⟨scaled col g.px g.scale, scaled line g.py g.scale, nearest_scaled .., nearest_scaled .., ?_⟩
    have hcol : c.col = col := cellOf_some_col hc
    subst hcol
    rw [cellOf_placeForm g slot1 hf, hc]
    exact if_congr (g.onSheet_iff slot1 line c.col) rfl rfl
  case absent =>
    rw [cellOf_placeForm g slot1 hf, hnone, Option.map_none, ite_self]

end Sys2Proof
end

section
/-! SUPPORT. A whole printer frame at a hunting receiver is handed to the link controller (R103, R165,
R166). -/

namespace Sys2Proof.Machine

open Sys2Proof.Claims

/-! ### Bytes of a frame still to be completed -/

theorem bodyLength_append {bytes : List Byte} (h : 3 ≤ bytes.length) (more : List Byte) :
    bodyLength (bytes ++ more) = bodyLength bytes := by
  rw [bodyLength, bodyLength, List.getD_append _ _ _ _ (by omega), List.getD_append _ _ _ _ (by omega)]

/-- The bytes taken since the start byte neither complete a frame nor give too great a length (R103). -/
def FrameOpen (bytes : List Byte) : Prop :=
  bytes.length < 3 ∨ (bodyLength bytes ≤ Config.maxPayload ∧ bytes.length < 5 + bodyLength bytes)

theorem FrameOpen.of_append {bytes more : List Byte} (h : FrameOpen (bytes ++ more)) :
    FrameOpen bytes := by
  unfold FrameOpen at h ⊢
  rw [List.length_append] at h
  by_cases hshort : bytes.length < 3
  · exact .inl hshort
  · rw [bodyLength_append (by omega)] at h
    omega

theorem receiveInFrame_of_open {bytes : List Byte} (h : FrameOpen bytes) (s : State) :
    receiveInFrame bytes s = setReceiver (.inFrame bytes) s := by
  unfold receiveInFrame
  obtain hshort | ⟨hmax, hopen⟩ := h
  · rw [if_pos hshort]
  · rw [if_neg (Nat.not_lt.mpr hmax), if_pos hopen, ite_self]

theorem receiveInFrame_of_valid {bytes payload : List Byte} {k : ReplyKind}
    (hmax : bodyLength bytes ≤ Config.maxPayload) (hlength : bytes.length = 5 + bodyLength bytes)
    (hvalid : checkFrame bytes = some (k, payload)) (s : State) :
    receiveInFrame bytes s = takeFrame k payload (setReceiver (.hunting false) s) := by
  unfold receiveInFrame
  rw [if_neg (by omega), if_neg (Nat.not_lt.mpr hmax), if_neg (by omega), hvalid]

/-! ### Runs of bytes -/

@[simp] theorem setReceiver_setReceiver (r q : Receiver) (s : State) :
    setReceiver r (setReceiver q s) = setReceiver r s := rfl

theorem receive_cons (b : Byte) (bytes : List Byte) (s : State) :
    receive (b :: bytes) s = receive bytes (receiveByte s b) := rfl

theorem receive_append (first second : List Byte) (s : State) :
    receive (first ++ second) s = receive second (receive first s) := List.foldl_append

theorem receiveByte_inFrame (taken : List Byte) (s : State) (b : Byte) :
    receiveByte (setReceiver (.inFrame taken) s) b =
      receiveInFrame (taken ++ [b]) (setReceiver (.inFrame taken) s) := rfl

theorem receive_inFrame_of_open {taken bytes : List Byte} (h : FrameOpen (taken ++ bytes)) (s : State) :
    receive bytes (setReceiver (.inFrame taken) s) = setReceiver (.inFrame (taken ++ bytes)) s := by
  induction bytes generalizing taken with
  | nil => rw [List.append_nil]; rfl
  | cons b bytes ih =>
    rw [List.append_cons] at h ⊢
    rw [receive_cons, receiveByte_inFrame, receiveInFrame_of_open h.of_append, setReceiver_setReceiver,
      ih h]

/-- The byte that ends a run of open bytes decides about the whole of it (R103). -/
theorem receive_frame_last {bytes : List Byte} (h : FrameOpen bytes) (b : Byte) (s : State) :
    receive (bytes ++ [b]) (setReceiver (.inFrame []) s) =
      receiveInFrame (bytes ++ [b]) (setReceiver (.inFrame bytes) s) := by
  rw [receive_append, receive_inFrame_of_open (taken := []) h, List.nil_append]
  rfl

theorem receiveByte_preamble {s : State} (h : Hunting s) :
    receiveByte s preambleByte = setReceiver (.hunting true) s := by
  obtain ⟨b, hb⟩ := h
  have hstart : preambleByte ≠ startByte := by decide
  simp [receiveByte, hb, hstart]

theorem receiveByte_start (s : State) :
    receiveByte (setReceiver (.hunting true) s) startByte = setReceiver (.inFrame []) s := rfl

theorem hunting_setReceiver (b : Bool) (s : State) : Hunting (setReceiver (.hunting b) s) := ⟨b, rfl⟩

/-- Preamble bytes and the start byte bring a hunting receiver into the frame (R103, R165). -/
theorem receive_preamble_start (n : Nat) {s : State} (h : Hunting s) :
    receive (List.replicate (n + 1) preambleByte ++ [startByte]) s = setReceiver (.inFrame []) s := by
  induction n generalizing s with
  | zero =>
    change receiveByte (receiveByte s preambleByte) startByte = _
    rw [receiveByte_preamble h, receiveByte_start]
  | succ n ih =>
    rw [List.replicate_succ, List.cons_append, receive_cons, receiveByte_preamble h,
      ih (hunting_setReceiver true s), setReceiver_setReceiver]

/-! ### A whole frame -/

theorem replyKindOf_code (k : ReplyKind) : replyKindOf k.code = some k := by
  cases k <;> rfl

theorem ReplyKind.length_le_maxPayload (k : ReplyKind) : k.length ≤ Config.maxPayload := by
  cases k <;> decide

theorem length_frameBody (kind : Byte) (payload : List Byte) :
    (frameBody kind payload).length = 3 + payload.length := by
  rw [frameBody, List.length_cons, List.length_append]
  change 2 + payload.length + 1 = _
  omega

theorem bodyLength_frameBody (kind : Byte) {payload : List Byte}
    (h : payload.length ≤ Config.maxPayload) :
    bodyLength (frameBody kind payload) = payload.length := by
  change (wordOf (hiByte (BitVec.ofNat 16 payload.length)) (loByte (BitVec.ofNat 16 payload.length))).toNat
    = payload.length
  have hmax : payload.length ≤ 1500 := h
  rw [wordOf_bytes, BitVec.toNat_ofNat, Nat.mod_eq_of_lt (by omega)]

theorem bodyLength_frame (kind : Byte) {payload : List Byte} (h : payload.length ≤ Config.maxPayload)
    (more : List Byte) : bodyLength (frameBody kind payload ++ more) = payload.length := by
  rw [bodyLength_append (by rw [length_frameBody]; omega), bodyLength_frameBody kind h]

theorem frameBytes_eq (kind : Byte) (payload : List Byte) :
    frameBytes kind payload = (List.replicate 4 preambleByte ++ [startByte]) ++
      (frameBody kind payload ++ fieldBytes (crc16 (frameBody kind payload))) :=
  List.append_assoc ..

theorem fieldBytes_eq (w : Word) : fieldBytes w = [hiByte w] ++ [loByte w] := rfl

theorem frameBody_drop (kind : Byte) (payload more : List Byte) :
    (frameBody kind payload ++ more).drop 3 = payload ++ more := rfl

/-- A frame of a printer's kind with that kind's length and its own CRC is valid (R165, R166). -/
theorem checkFrame_frame {k : ReplyKind} {payload : List Byte} (h : payload.length = k.length) :
    checkFrame (frameBody k.code payload ++ fieldBytes (crc16 (frameBody k.code payload))) =
      some (k, payload) := by
  have hmax : payload.length ≤ Config.maxPayload := h ▸ k.length_le_maxPayload
  have hbody := length_frameBody k.code payload
  generalize hcrc : crc16 (frameBody k.code payload) = crc
  have hkind : (frameBody k.code payload ++ fieldBytes crc).getD 0 0 = k.code := rfl
  have hhi : (frameBody k.code payload ++ fieldBytes crc).getD (3 + payload.length) 0 = hiByte crc := by
    rw [List.getD_append_right _ _ _ _ hbody.le, hbody, Nat.sub_self]; rfl
  have hlo : (frameBody k.code payload ++ fieldBytes crc).getD (4 + payload.length) 0 = loByte crc := by
    rw [List.getD_append_right _ _ _ _ (by omega), hbody, Nat.add_sub_add_right]; rfl
  have hsum : crc16 ((frameBody k.code payload ++ fieldBytes crc).take (3 + payload.length)) = crc := by
    rw [List.take_left' hbody, hcrc]
  unfold checkFrame
  simp only [bodyLength_frame k.code hmax, hkind, replyKindOf_code, hsum, hhi, hlo, wordOf_bytes]
  rw [if_pos ⟨h, trivial⟩, frameBody_drop, List.take_left]

/-- The receiver takes a whole good frame byte by byte and hands it on (R103, R104). -/
theorem receive_frameBytes {k : ReplyKind} {payload : List Byte} (h : payload.length = k.length)
    {s : State} (hs : Hunting s) :
    receive (frameBytes k.code payload) s = takeFrame k payload (setReceiver (.hunting false) s) := by
  have hmax : payload.length ≤ Config.maxPayload := h ▸ k.length_le_maxPayload
  have hvalid := checkFrame_frame h
  have hbody := length_frameBody k.code payload
  rw [frameBytes_eq, receive_append, receive_preamble_start 3 hs]
  generalize crc16 (frameBody k.code payload) = crc at hvalid ⊢
  have hlength := bodyLength_frame k.code hmax
  have hopen : FrameOpen (frameBody k.code payload ++ [hiByte crc]) := by
    refine .inr ⟨(hlength _).trans_le hmax, ?_⟩
    rw [hlength, List.length_append, hbody, List.length_singleton]
    omega
  rw [fieldBytes_eq, ← List.append_assoc] at hvalid ⊢
  rw [receive_frame_last hopen]
  refine receiveInFrame_of_valid ?_ ?_ hvalid _
  · rw [List.append_assoc, hlength]
    exact hmax
  · rw [List.append_assoc, hlength, List.length_append, hbody]
    exact Nat.add_right_comm ..

end Sys2Proof.Machine
end

section
/-! PROOF. What life and an ignored reply do at the link controller (R104, R116). -/

namespace Sys2Proof.Machine

open Sys2Proof.Claims

/-! ### Life -/

theorem startSheet_eq_begins (s : State) : startSheet s = begins s.queue s.link s := by
  unfold startSheet begins
  cases s.queue with
  | nil => rfl
  | cons sh rest => rfl

/-- The link that a beginning sheet finds in the state does not matter. -/
theorem begins_withLink (queue : List Sheet) (l old : LinkCtl) (s : State) :
    begins queue l { s with link := old } = begins queue l s := by
  unfold begins
  cases queue with
  | nil => rfl
  | cons sh rest => rfl

theorem takeLife_of_down {s : State} (h : s.link.state = .down) :
    takeLife s = { s with link := { s.link with silence := 0, state := .training, pulses := 1 } } := by
  simp only [takeLife, h]

theorem takeLife_of_training {s : State} (h : s.link.state = .training) (hcount : s.link.pulses < 2) :
    takeLife s = { s with link := { s.link with silence := 0, pulses := s.link.pulses + 1 } } := by
  have hmore : s.link.pulses + 1 ≠ Config.trainFrames := by
    change s.link.pulses + 1 ≠ 3
    omega
  simp only [takeLife, h, if_neg hmore]

/-- The third frame of the training brings the link up (R104, R106). -/
theorem takeLife_of_trained {s : State} (h : s.link.state = .training) (hcount : s.link.pulses = 2) :
    takeLife s = begins s.queue { s.link with silence := 0, pulses := 3 } s := by
  have hlast : 3 = Config.trainFrames := rfl
  simp only [takeLife, h, hcount, Nat.reduceAdd, if_pos hlast, startSheet_eq_begins, begins_withLink]

theorem takeLife_of_up {s : State} (hdown : s.link.state ≠ .down) (htraining : s.link.state ≠ .training) :
    takeLife s = { s with link := { s.link with silence := 0 } } := by
  unfold takeLife
  split
  next h => exact absurd h hdown
  next h => exact absurd h htraining
  next => rfl

/-! ### Ignored replies -/

/-- A link that begins a sheet awaits no reply yet (R106, R109). -/
theorem begins_state_ne_awaiting (queue : List Sheet) (l : LinkCtl) (s : State) :
    (begins queue l s).link.state ≠ .awaiting := by
  unfold begins
  cases queue with
  | nil => exact nofun
  | cons sh rest => dsimp only; split <;> exact nofun

theorem ignoreReply_begins (queue : List Sheet) (l : LinkCtl) (s : State) :
    ignoreReply (begins queue l s) =
      begins queue { l with ignoredReplies := saturated l.ignoredReplies 1 } s := by
  unfold begins
  cases queue with
  | nil => rfl
  | cons sh rest => dsimp only; split <;> rfl

theorem takeReply_ignored {k : ReplyKind} {number : Word} {s : State}
    (h : s.link.state = .awaiting → ∀ sh ∈ s.queue.head?, sh.number ≠ number) :
    takeReply k number s = ignoreReply s := by
  unfold takeReply
  split
  next sh rest hstate hqueue =>
    rw [if_neg (h hstate sh (by rw [hqueue]; rfl))]
  next => rfl

/-! ### The three replies -/

/-- A reply is life first, and then a reply that names its sheet (R104, R116). -/
theorem takeFrame_reply {k : ReplyKind} (h : k ≠ .pulse) (number : Word) (more : List Byte) (s : State) :
    takeFrame k (fieldBytes number ++ more) s = takeReply k number (takeLife s) := by
  have hnumber : wordOf ((fieldBytes number ++ more).getD 0 0) ((fieldBytes number ++ more).getD 1 0)
      = number := wordOf_bytes number
  cases k with
  | pulse => exact absurd rfl h
  | _ => simp only [takeFrame, hnumber]

/-- A whole reply frame at a hunting receiver: life, then its kind for the sheet it names. -/
theorem receive_reply {k : ReplyKind} (h : k ≠ .pulse) {number : Word} {more : List Byte}
    (hlength : (fieldBytes number ++ more).length = k.length) {s : State} (hs : Hunting s) :
    receive (frameBytes k.code (fieldBytes number ++ more)) s =
      takeReply k number (takeLife (setReceiver (.hunting false) s)) := by
  rw [receive_frameBytes hlength hs, takeFrame_reply h]

theorem exec_reply {number : Word} {reason : Byte} {s : State} (hs : Hunting s) {i : Instr}
    (hi : i ∈ [Instr.accept number, .busy number, .reject number reason]) :
    ∃ k, exec i s = .next (takeReply k number (takeLife (setReceiver (.hunting false) s))) := by
  simp only [List.mem_cons, List.not_mem_nil, or_false] at hi
  obtain rfl | rfl | rfl := hi
  · exact ⟨.accept, congrArg Host.Outcome.next (receive_reply (more := []) (by decide) rfl hs)⟩
  · exact ⟨.busy, congrArg Host.Outcome.next (receive_reply (more := []) (by decide) rfl hs)⟩
  · exact ⟨.reject, congrArg Host.Outcome.next (receive_reply (more := [reason]) (by decide) rfl hs)⟩

/-- A reply that what life made of the link does not await is counted and is otherwise that life alone. -/
theorem exec_reply_ignored {number : Word} {reason : Byte} {s t : State} (hs : Hunting s) {i : Instr}
    (hi : i ∈ [Instr.accept number, .busy number, .reject number reason])
    (hlife : takeLife (setReceiver (.hunting false) s) = t)
    (h : t.link.state = .awaiting → ∀ sh ∈ t.queue.head?, sh.number ≠ number) :
    exec i s = .next (ignoreReply t) := by
  obtain ⟨k, hk⟩ := exec_reply hs hi
  rw [hk, hlife, takeReply_ignored h]

end Sys2Proof.Machine

namespace Sys2Proof

open Sys2Proof.Machine Sys2Proof.Claims

/-- Settles O48: a reply is life and then a reply; life leaves no link awaiting that did not await before,
so the reply is ignored after it. -/
theorem ignoredReply : Obligations.IgnoredReply := by
  unfold Obligations.IgnoredReply
  intro number reason s hs i hi
  refine ⟨fun hdown htraining hother => ?up, fun hdown => ?down, fun htraining hcount => ?training,
    fun htraining hcount => ?trained⟩
  case up => exact exec_reply_ignored hs hi (takeLife_of_up hdown htraining) hother
  case down => exact exec_reply_ignored hs hi (takeLife_of_down hdown) nofun
  case training =>
    refine exec_reply_ignored hs hi (takeLife_of_training htraining hcount) fun h => ?_
    exact absurd (htraining.symm.trans h) nofun
  case trained =>
    rw [exec_reply_ignored hs hi (takeLife_of_trained htraining hcount)
      fun h => (begins_state_ne_awaiting _ _ _ h).elim, ignoreReply_begins]
    exact congrArg Host.Outcome.next (begins_withLink ..)

end Sys2Proof
end

section
/-! SUPPORT. What one command can do: every command's next state comes from one of the part's operations, so an
invariant of every step is shown operation by operation (95, what each step holds). -/

namespace Sys2Proof.Machine

/-- The operation by which a command brings one state to the next. -/
inductive Effect (s : State) : State → Prop
  | nothing : Effect s s
  | poweredOn (straps : BitVec 4) : Effect s (powerOnWith straps s)
  | busReset (order : List ChannelId) : Effect s (hostReset order s)
  | held (c : BusCycle) : Effect s { s with presented := some c, hostReply := none }
  | passed (c : BusCycle) (ans : CycleAnswer) (h : s.canPass c = true) :
      Effect s (passCycle c ans { s with presented := none })
  | retried : Effect s (afterFreeing s)
  | claimed (x : Claim) (hx : x ∈ s.roomWait) (h : claimTakable x s = true) : Effect s (claimAlone x s)
  | ticked (ch : ChannelId) : Effect s (channelTick ch s)
  | linkTicked : Effect s (tickLink s)
  | panelSet (p : Panel) : Effect s { s with panel := p }
  | stopped (p : Panel) (ch : ChannelId) : Effect s (stopChannel ch { s with panel := p })
  | started (p : Panel) (ch : ChannelId) : Effect s (startLink (startChannel ch { s with panel := p }))
  | ejected (p : Panel) (ch : ChannelId) : Effect s (ejectChannel ch { s with panel := p })
  | received (bytes : List Byte) : Effect s (receive bytes s)
  | rowSent : Effect s (sendRow s)
  | endSent : Effect s (sendEnd s)
  | ownStarted : Effect s (startOwnCycle s)
  | granted : Effect s (grantFree s)
  | fetched (ans : ReadAnswer) : Effect s (endFetch ans s)
  | tallied (ans : WriteAnswer) : Effect s (endTallyWrite ans s)

theorem present_effect (c : BusCycle) (ans : CycleAnswer) (s : State) : Effect s (presentCycle c ans s) := by
  unfold presentCycle
  split
  · exact .nothing
  next halone =>
    split
    next hpass =>
      have hsame : { s with presented := none } = s := by rw [← halone]
      have := Effect.passed c ans hpass
      rwa [hsame] at this
    next => exact .held c

theorem passPresented_effect (ans : CycleAnswer) (s : State) : Effect s (passPresented ans s) := by
  unfold passPresented
  split
  · exact .nothing
  · split
    next hpass => exact .passed _ ans hpass
    next => exact .nothing

/-- A claimant that the queue's free place can go to waits and can be taken (R100). -/
theorem firstClaim_takable {s : State} {x : Claim} (h : firstClaim s = some x) :
    x ∈ s.roomWait ∧ claimTakable x s = true := by
  unfold firstClaim at h
  split at h
  · exact ⟨List.mem_of_find?_eq_some h, List.find?_some (p := fun x => claimTakable x s) h⟩
  · cases h

theorem press_effect {s : State} {sw : PanelSwitch} {event : ChannelId → State → State}
    (h : ∀ p ch, Effect s (event ch { s with panel := p })) : Effect s (press sw event s) := by
  unfold press
  split
  · exact .nothing
  · exact h ..

/-- Every command is answered by a next state that one operation makes. -/
theorem exec_effect (i : Instr) (s : State) : ∃ t, exec i s = .next t ∧ Effect s t := by
  cases i with
  | powerOn straps => exact ⟨_, rfl, .poweredOn straps⟩
  | hostBusReset order => exact ⟨_, rfl, .busReset order⟩
  | statusRead a ans => exact ⟨_, rfl, present_effect ..⟩
  | heldHostCyclePass ans => exact ⟨_, rfl, passPresented_effect ..⟩
  | cellWaitRetry => exact ⟨_, rfl, .retried⟩
  | roomWaitMove =>
    change ∃ t, execRoomWaitMove s = .next t ∧ _
    unfold execRoomWaitMove
    split
    next ch h => exact ⟨_, rfl, .claimed _ (firstClaim_takable h).1 (firstClaim_takable h).2⟩
    next => exact ⟨_, rfl, .nothing⟩
  | roomWaitRunOut =>
    change ∃ t, execRoomWaitRunOut s = .next t ∧ _
    unfold execRoomWaitRunOut
    split
    next ch h => exact ⟨_, rfl, .claimed _ (firstClaim_takable h).1 (firstClaim_takable h).2⟩
    next => exact ⟨_, rfl, .nothing⟩
  | runOut ch =>
    change ∃ t, execRunOut ch s = .next t ∧ _
    unfold execRunOut
    split
    · exact ⟨_, rfl, .ticked ch⟩
    · exact ⟨_, rfl, .nothing⟩
  | stop => exact ⟨_, rfl, press_effect fun p ch => .stopped p ch⟩
  | start => exact ⟨_, rfl, press_effect fun p ch => .started p ch⟩
  | eject => exact ⟨_, rfl, press_effect fun p ch => .ejected p ch⟩
  | selectorChange x => exact ⟨_, rfl, .panelSet _⟩
  | switchRelease sw => exact ⟨_, rfl, .panelSet _⟩
  | channelTick ch => exact ⟨_, rfl, .ticked ch⟩
  | linkTick => exact ⟨_, rfl, .linkTicked⟩
  | linkLoss =>
    change ∃ t, execLinkLoss s = .next t ∧ _
    unfold execLinkLoss
    split
    · exact ⟨_, rfl, .linkTicked⟩
    · exact ⟨_, rfl, .nothing⟩
  | replyTimerExpiry =>
    change ∃ t, execReplyTimerExpiry s = .next t ∧ _
    unfold execReplyTimerExpiry
    split
    · exact ⟨_, rfl, .linkTicked⟩
    · exact ⟨_, rfl, .nothing⟩
  | backoffEnd =>
    change ∃ t, execBackoffEnd s = .next t ∧ _
    unfold execBackoffEnd
    split
    · exact ⟨_, rfl, .linkTicked⟩
    · exact ⟨_, rfl, .nothing⟩
  | pulse => exact ⟨_, rfl, .received _⟩
  | accept n => exact ⟨_, rfl, .received _⟩
  | reject n r => exact ⟨_, rfl, .received _⟩
  | busy n => exact ⟨_, rfl, .received _⟩
  | badFrame b => exact ⟨_, rfl, .received b⟩
  | row => exact ⟨_, rfl, .rowSent⟩
  | sheetEnd => exact ⟨_, rfl, .endSent⟩
  | ownCycleStart => exact ⟨_, rfl, .ownStarted⟩
  | fetchPlaceGrant => exact ⟨_, rfl, .granted⟩
  | fetchAnswer ans => exact ⟨_, rfl, .fetched ans⟩
  | tallyWrite ans => exact ⟨_, rfl, .tallied ans⟩
  | _ => exact ⟨_, rfl, present_effect ..⟩

/-- What taking a command off the queue and every operation keep, every step keeps. -/
theorem step_keeps {P : State → Prop} (hpending : ∀ s q, P s → P { s with pending := q })
    (heffect : ∀ s t, Effect s t → P s → P t) {s t : State} (hs : P s) (h : step s = .next t) : P t := by
  unfold step at h
  split at h
  · cases h
    exact hs
  next c rest _ =>
    obtain ⟨u, hexec, heff⟩ := exec_effect c { s with pending := rest }
    rw [hexec] at h
    cases h
    exact heffect _ _ heff (hpending s rest hs)

end Sys2Proof.Machine
end

section
/-! PROOF. The queue of waiting commands: a step runs its front, and no command touches it (95; log entries 4, 5,
8, 16, 25). -/

namespace Sys2Proof.Machine

theorem resetChannel_pending (ch : ChannelId) (s : State) : (resetChannel ch s).pending = s.pending := rfl

theorem resetInTurn_pending (s : State) (ch : ChannelId) : (resetInTurn s ch).pending = s.pending := by
  unfold resetInTurn
  split
  · rw [(afterFreeing_kept _).pending, resetChannel_pending]
  · rfl

theorem foldl_resetInTurn_pending (order : List ChannelId) (s : State) :
    (order.foldl resetInTurn s).pending = s.pending := by
  induction order generalizing s with
  | nil => rfl
  | cons ch order ih => rw [List.foldl_cons, ih, resetInTurn_pending]

theorem foldl_resetChannel_pending (l : List ChannelId) (s : State) :
    (l.foldl (fun acc ch => resetChannel ch acc) s).pending = s.pending := by
  induction l generalizing s with
  | nil => rfl
  | cons ch l ih => rw [List.foldl_cons, ih, resetChannel_pending]

theorem relistSetup_pending (removed : List FetchWord) (s : State) :
    (relistSetup removed s).pending = s.pending := by
  unfold relistSetup
  split <;> rfl

theorem regrant_pending (s : State) : (regrant s).pending = s.pending := by
  unfold regrant
  split
  · exact (askPlaces_kept ..).pending
  · rw [(grantPlaces_kept ..).pending]
    split <;> rfl

theorem hostReset_pending (order : List ChannelId) (s : State) :
    (hostReset order s).pending = s.pending := by
  unfold hostReset
  rw [regrant_pending, foldl_resetChannel_pending, foldl_resetInTurn_pending, relistSetup_pending]
  rfl

theorem startOwnCycle_pending (s : State) : (startOwnCycle s).pending = s.pending := by
  unfold startOwnCycle
  split
  · split
    · rfl
    · dsimp only
      split
      · exact (grantPlace_kept _).pending
      · rfl
  · rfl

theorem ejectChannel_kept (ch : ChannelId) (s : State) : PrintKept s (ejectChannel ch s) := by
  unfold ejectChannel
  split
  · split
    · exact (startEject_kept ..).trans (settleFrom_kept ..)
    · exact .refl s
  · split
    · exact ((modCh_kept ..).trans (startEject_kept ..)).trans (settleFrom_kept ..)
    · exact .refl s
  · exact modCh_kept ..
  · exact .refl s

theorem claimAlone_kept (x : Claim) (s : State) : PrintKept s (claimAlone x s) :=
  (takeClaim_kept ..).trans (settleFrom_kept ..)

theorem grantFree_kept (s : State) : PathKept s (grantFree s) := by
  unfold grantFree
  split
  · exact grantPlace_kept s
  · exact .refl s

theorem shadowOwn_pending (s : State) (a : Addr) (hi lo : Option Byte) :
    (s.shadowOwn a hi lo).pending = s.pending := by
  unfold State.shadowOwn
  split <;> rfl

theorem endFetch_pending (ans : ReadAnswer) (s : State) : (endFetch ans s).pending = s.pending := by
  unfold endFetch
  split
  · rw [(deliver_kept ..).pending, shadowOwn_pending]
  · rfl

theorem endTallyWrite_pending (ans : WriteAnswer) (s : State) :
    (endTallyWrite ans s).pending = s.pending := by
  unfold endTallyWrite
  split
  · dsimp only
    split
    · exact shadowOwn_pending ..
    · exact shadowOwn_pending ..
  · rfl

theorem Effect.pending {s t : State} (h : Effect s t) : t.pending = s.pending := by
  cases h with
  | nothing => rfl
  | poweredOn => rfl
  | busReset order => exact hostReset_pending order s
  | held => rfl
  | passed c ans => exact (passCycle_kept c ans _).2.2.2
  | retried => exact (afterFreeing_kept s).pending
  | claimed x => exact (claimAlone_kept x s).pending
  | ticked ch => exact (channelTick_kept ch s).pending
  | linkTicked => exact (tickLink_kept s).pending
  | panelSet => rfl
  | stopped => rfl
  | started p ch => exact (startLink_kept (startChannel ch { s with panel := p })).pending
  | ejected p ch => exact (ejectChannel_kept ch { s with panel := p }).pending
  | received bytes => exact (receive_kept bytes s).pending
  | rowSent => exact (sendRow_kept s).pending
  | endSent => exact (sendEnd_kept s).pending
  | ownStarted => exact startOwnCycle_pending s
  | granted => exact (grantFree_kept s).pending
  | fetched ans => exact endFetch_pending ans s
  | tallied ans => exact endTallyWrite_pending ans s

end Sys2Proof.Machine

namespace Sys2Proof

open Sys2Proof.Machine

/-- Settles O1: `step` by its two cases. -/
theorem stepRunsFront : Obligations.StepRunsFront := by
  unfold Obligations.StepRunsFront
  refine ⟨fun c rest s => rfl, fun s hempty => ?_⟩
  unfold step
  rw [hempty]

/-- Settles O2: every operation behind a command keeps the queue. -/
theorem everyCommandAnswersNext : Obligations.EveryCommandAnswersNext := by
  unfold Obligations.EveryCommandAnswersNext
  intro c s
  obtain ⟨t, hexec, heffect⟩ := exec_effect c s
  exact ⟨t, hexec, heffect.pending⟩

end Sys2Proof
end

section
/-! SUPPORT. What the printing operations keep of the channels' binding and of the own-cycle queue, whatever the
state (R23, R129, R131). -/

namespace Sys2Proof.Machine

/-- A channel stays bound or OFFLINE, and keeps its GO mode and its layout. -/
structure SameSettings (c d : Channel) : Prop where
  offline : d.state = .offline ↔ c.state = .offline
  goMode : d.goMode = c.goMode
  layout : d.layout = c.layout

theorem SameSettings.refl (c : Channel) : SameSettings c c := ⟨.rfl, rfl, rfl⟩

theorem SameSettings.trans {c d e : Channel} (h : SameSettings c d) (k : SameSettings d e) :
    SameSettings c e :=
  ⟨k.offline.trans h.offline, k.goMode.trans h.goMode, k.layout.trans h.layout⟩

/-- Every channel keeps its settings. -/
def ChannelsKept (s t : State) : Prop := ∀ i, SameSettings (s.ch i) (t.ch i)

theorem ChannelsKept.refl (s : State) : ChannelsKept s s := fun i => .refl (s.ch i)

theorem ChannelsKept.trans {s t u : State} (h : ChannelsKept s t) (k : ChannelsKept t u) :
    ChannelsKept s u := fun i => (h i).trans (k i)

theorem ChannelsKept.of_chans {s t : State} (h : t.chans = s.chans) : ChannelsKept s t := fun i => by
  rw [State.ch_congr h i]
  exact .refl _

theorem ChannelsKept.modCh {s : State} {ch : ChannelId} {f : Channel → Channel}
    (h : SameSettings (s.ch ch) (f (s.ch ch))) : ChannelsKept s (s.modCh ch f) := fun i => by
  by_cases hi : i = ch
  · subst hi
    rwa [State.ch_modCh_same]
  · rw [State.ch_modCh_other s f hi]
    exact .refl _

/-- No FETCH enters or leaves the own-cycle queue, and a channel has one TALLY-WRITE there at most (R129). -/
structure QueueKept (p q : List OwnEntry) : Prop where
  fetches : q.filter OwnEntry.isFetch = p.filter OwnEntry.isFetch
  tallies : ∀ i, p.countP (OwnEntry.isTallyOf i) ≤ 1 → q.countP (OwnEntry.isTallyOf i) ≤ 1

theorem QueueKept.refl (q : List OwnEntry) : QueueKept q q := ⟨rfl, fun _ h => h⟩

theorem QueueKept.trans {p q r : List OwnEntry} (h : QueueKept p q) (k : QueueKept q r) : QueueKept p r :=
  ⟨k.fetches.trans h.fetches, fun i hi => k.tallies i (h.tallies i hi)⟩

/-- What a printing operation keeps of the channels and of the own-cycle queue. -/
structure SettingsKept (s t : State) : Prop where
  channels : ChannelsKept s t
  ownQueue : QueueKept s.ownQueue t.ownQueue

theorem SettingsKept.refl (s : State) : SettingsKept s s := ⟨.refl s, .refl _⟩

theorem SettingsKept.trans {s t u : State} (h : SettingsKept s t) (k : SettingsKept t u) :
    SettingsKept s u := ⟨h.channels.trans k.channels, h.ownQueue.trans k.ownQueue⟩

theorem SettingsKept.of_eq {s t : State} (h : t.chans = s.chans) (k : t.ownQueue = s.ownQueue) :
    SettingsKept s t := ⟨.of_chans h, k ▸ .refl _⟩

/-- A change of other fields before an operation. -/
theorem SettingsKept.after {s t u : State} (k : SettingsKept t u) (hchans : t.chans = s.chans)
    (hqueue : t.ownQueue = s.ownQueue) : SettingsKept s u := (SettingsKept.of_eq hchans hqueue).trans k

theorem SettingsKept.modCh {s : State} {ch : ChannelId} {f : Channel → Channel}
    (h : SameSettings (s.ch ch) (f (s.ch ch))) : SettingsKept s (s.modCh ch f) :=
  ⟨.modCh h, .refl _⟩

/-- A change of registers other than state, GO mode and layout. -/
theorem modCh_registers {s : State} {ch : ChannelId} {f : Channel → Channel}
    (h : (f (s.ch ch)).state = (s.ch ch).state ∧ (f (s.ch ch)).goMode = (s.ch ch).goMode ∧
      (f (s.ch ch)).layout = (s.ch ch).layout) : SettingsKept s (s.modCh ch f) :=
  .modCh ⟨by rw [h.1], h.2.1, h.2.2⟩

/-- A bound channel's change of state from one bound state to another. -/
theorem modCh_bound {s : State} {ch : ChannelId} {f : Channel → Channel}
    (h : (s.ch ch).state ≠ .offline) (hf : (f (s.ch ch)).state ≠ .offline)
    (hs : (f (s.ch ch)).goMode = (s.ch ch).goMode ∧ (f (s.ch ch)).layout = (s.ch ch).layout) :
    SettingsKept s (s.modCh ch f) :=
  .modCh ⟨iff_of_false hf h, hs.1, hs.2⟩

theorem SettingsKept.bound {s t : State} (h : SettingsKept s t) {ch : ChannelId}
    (hs : (s.ch ch).state ≠ .offline) : (t.ch ch).state ≠ .offline := fun ht =>
  hs (((h.channels ch).offline).mp ht)

theorem setStage_settings (s : State) (ch : ChannelId) (st : Stage) : SettingsKept s (s.setStage ch st) := by
  refine .modCh ⟨?_, ?_, ?_⟩
  all_goals split <;> simp_all

/-! ### The own-cycle queue -/

theorem isTallyOf_tally (i ch : ChannelId) (a : Addr) (v : Word) :
    (OwnEntry.tally ch a v).isTallyOf i = decide (ch = i) := rfl

/-- An entry that is the channel's TALLY-WRITE stands for no other channel's and is no FETCH. -/
theorem isTallyOf_true {e : OwnEntry} {ch : ChannelId} (h : e.isTallyOf ch = true) :
    ∃ a v, e = .tally ch a v := by
  cases e with
  | fetch req w => cases h
  | tally c a v => exact ⟨a, v, by rw [of_decide_eq_true h]⟩

/-- A replaced TALLY-WRITE keeps its place, every other entry is kept. -/
theorem replaceTally_kept (ch : ChannelId) (a : Addr) (v : Word) (q : List OwnEntry) :
    QueueKept q (q.map fun e => if e.isTallyOf ch then .tally ch a v else e) := by
  refine ⟨?_, fun i hi => ?_⟩
  · induction q with
    | nil => rfl
    | cons e q ih =>
      by_cases he : e.isTallyOf ch = true
      · obtain ⟨b, u, rfl⟩ := isTallyOf_true he
        simp only [List.map_cons, if_pos he]
        simpa [OwnEntry.isFetch] using ih
      · simp only [List.map_cons, he, List.filter_cons]
        rw [ih]
        rfl
  · rw [List.countP_map]
    refine (Nat.le_of_eq (List.countP_congr fun e _ => ?_)).trans hi
    by_cases he : e.isTallyOf ch = true
    · obtain ⟨b, u, rfl⟩ := isTallyOf_true he
      simp [isTallyOf_tally]
    · simp [he]

theorem appendTally_kept (ch : ChannelId) (a : Addr) (v : Word) {q : List OwnEntry}
    (hnone : q.any (OwnEntry.isTallyOf ch) = false) : QueueKept q (q ++ [.tally ch a v]) := by
  refine ⟨by simp [OwnEntry.isFetch], fun i hi => ?_⟩
  rw [List.countP_append]
  by_cases h : ch = i
  · subst h
    have hzero : q.countP (OwnEntry.isTallyOf ch) = 0 := by
      rw [List.countP_eq_zero]
      exact fun e he => by simpa using List.any_eq_false.mp hnone e he
    simp [hzero, isTallyOf_tally]
  · simpa [isTallyOf_tally, h] using hi

theorem requestTally_settings (ch : ChannelId) (s : State) : SettingsKept s (requestTally ch s) := by
  unfold requestTally
  dsimp only
  split
  · exact ⟨.of_chans rfl, replaceTally_kept ..⟩
  next hnone => exact ⟨.of_chans rfl, appendTally_kept _ _ _ (by simpa using hnone)⟩

/-! ### Sheets and forms -/

theorem startSheet_settings (s : State) : SettingsKept s (startSheet s) := by
  unfold startSheet
  repeat' split
  all_goals exact .of_eq rfl rfl

theorem enterQueue_settings (ch : ChannelId) (f0 : Form) (f1 : Option Form) (s : State) :
    SettingsKept s (enterQueue ch f0 f1 s) := by
  have hin : SettingsKept s { s.modCh ch (fun c => { c with clipped := satAdd c.clipped (entryClip s ch f0 f1) })
      with queue := s.queue ++ [makeSheet s ch f0 f1], sheetCounter := s.sheetCounter + 1
           freeCells := s.freeCells + entryClip s ch f0 f1 } :=
    (modCh_registers (s := s) (ch := ch) (f := fun c => { c with clipped := satAdd c.clipped (entryClip s ch f0 f1) }) ⟨rfl, rfl, rfl⟩).trans (.of_eq rfl rfl)
  unfold enterQueue
  dsimp only
  split
  · exact hin.trans (startSheet_settings _)
  · exact hin

theorem mergeLine_settings (ch : ChannelId) (k : List Strike) (s : State) :
    SettingsKept s (mergeLine ch k s) := by
  unfold mergeLine
  split
  · exact .refl s
  next p _ =>
    have hmerge : SettingsKept s (s.modCh ch fun c =>
        { c with
          paper := some { p with form := p.form.merge p.pos k }
          droppedStrikes := satAdd c.droppedStrikes (fullStrikes (p.form.cellsAt p.pos) k)
          state := match c.state with
            | .busy op => .busy { op with linePlaced := true, stage := .moving none }
            | st => st }) := by
      refine .modCh ⟨?_, rfl, rfl⟩
      dsimp only
      split <;> simp_all
    exact hmerge.trans (.of_eq rfl rfl)

theorem routeClose_settings (ch : ChannelId) (f : Form) (s : State) :
    SettingsKept s (routeClose ch f s) := by
  unfold routeClose
  split
  · split
    · exact modCh_registers ⟨rfl, rfl, rfl⟩
    · exact (modCh_registers ⟨rfl, rfl, rfl⟩).trans (enterQueue_settings ..)
  · exact enterQueue_settings ..

theorem releaseSheet_settings (ch : ChannelId) (s : State) : SettingsKept s (releaseSheet ch s) := by
  unfold releaseSheet
  split
  · exact .refl s
  · exact (modCh_registers ⟨rfl, rfl, rfl⟩).trans (enterQueue_settings ..)

theorem breakForm_settings (ch : ChannelId) (s : State) : SettingsKept s (breakForm ch s) := by
  unfold breakForm
  split
  · exact .refl s
  · exact (modCh_registers ⟨rfl, rfl, rfl⟩).trans (routeClose_settings ..)

theorem breakVictim_settings (v : ChannelId) (s : State) : SettingsKept s (breakVictim v s) := by
  have hbreak : SettingsKept s
      ((breakForm v s).modCh v fun c => { c with forcedBreaks := satAdd c.forcedBreaks 1 }) :=
    (breakForm_settings v s).trans (modCh_registers ⟨rfl, rfl, rfl⟩)
  unfold breakVictim
  dsimp only
  split
  · exact hbreak.trans (releaseSheet_settings ..)
  · exact hbreak

theorem lastResort_settings (n : Nat) (s : State) :
    SettingsKept s
      (if s.queue.length = n then
        match mostOf fun ch => (s.ch ch).pendSheet.map Form.cellCount with
        | some ch => releaseSheet ch s
        | none => s
      else s) := by
  repeat' split
  · exact releaseSheet_settings ..
  · exact .refl s
  · exact .refl s

theorem forcedBreak_settings (w : ChannelId) (s : State) : SettingsKept s (forcedBreak w s) := by
  have hvictim : SettingsKept s (match victimOf w s with | some v => breakVictim v s | none => s) := by
    split
    · exact breakVictim_settings ..
    · exact .refl s
  exact (hvictim.trans (releaseSheet_settings w _)).trans (lastResort_settings _ _)

/-! ### Operations -/

theorem dropRunOut_settings (ch : ChannelId) (s : State) : SettingsKept s (dropRunOut ch s) :=
  (modCh_registers (s := s) (ch := ch) (f := fun c => { c with runOutDue := false }) ⟨rfl, rfl, rfl⟩).trans (.of_eq rfl rfl)

theorem startOp_settings {ch : ChannelId} (op : Op) {s : State} (h : (s.ch ch).state ≠ .offline) :
    SettingsKept s (startOp ch op s) := by
  refine SettingsKept.trans (modCh_bound h ?_ ⟨rfl, rfl⟩) (dropRunOut_settings ..)
  exact nofun

theorem joinRoom_settings (x : Claim) (s : State) : SettingsKept s (joinRoom x s) := by
  unfold joinRoom
  split
  · exact .refl s
  · exact .of_eq rfl rfl

theorem makeMove_settings (ch : ChannelId) (p : Paper) (w : Walk) (s : State) :
    SettingsKept s (makeMove ch p w s) := by
  unfold makeMove
  dsimp only
  split
  · exact (modCh_registers ⟨rfl, rfl, rfl⟩).trans (routeClose_settings ..)
  · exact modCh_registers ⟨rfl, rfl, rfl⟩

/-- The state that a pending STOP decides is a bound one (R15). -/
theorem stopped_or_idle_bound (b : Bool) : (if b = true then ChState.stopped else .idle) ≠ .offline := by
  cases b <;> simp

theorem endPanelOp_settings {ch : ChannelId} {s : State} (h : (s.ch ch).state ≠ .offline) :
    SettingsKept s (endPanelOp ch s) :=
  modCh_bound h (stopped_or_idle_bound _) ⟨rfl, rfl⟩

theorem settleStop_settings {ch : ChannelId} {s : State} (h : (s.ch ch).state ≠ .offline) :
    SettingsKept s (settleStop ch s) :=
  modCh_bound h (stopped_or_idle_bound _) ⟨rfl, rfl⟩

theorem panelMove_settings {ch : ChannelId} {s : State} (h : (s.ch ch).state ≠ .offline) :
    SettingsKept s (panelMove ch s) := by
  unfold panelMove
  split
  · exact endPanelOp_settings h
  · dsimp only
    split
    · exact (makeMove_settings ..).trans (endPanelOp_settings ((makeMove_settings ..).bound h))
    · exact joinRoom_settings ..

theorem startEject_settings {ch : ChannelId} {s : State} (h : (s.ch ch).state ≠ .offline) :
    SettingsKept s (startEject ch s) :=
  have hstart := startOp_settings ejectOp h
  hstart.trans (panelMove_settings (hstart.bound h))

theorem applyPending_settings {ch : ChannelId} {s : State} (h : (s.ch ch).state ≠ .offline) :
    SettingsKept s (applyPending ch s) := by
  have hdrop : SettingsKept s (s.modCh ch fun c => { c with pendEject := false }) :=
    modCh_registers ⟨rfl, rfl, rfl⟩
  unfold applyPending
  split
  · dsimp only
    split
    · exact hdrop.trans (startEject_settings (hdrop.bound h))
    · exact hdrop.trans (settleStop_settings (hdrop.bound h))
  · exact settleStop_settings h

theorem complete_settings (ch : ChannelId) (out : OpOutcome) (s : State) :
    SettingsKept s (complete ch out s) := by
  unfold complete
  split
  next op hbusy =>
    have hbound : (s.ch ch).state ≠ .offline := by rw [hbusy]; exact nofun
    have hdone : SettingsKept s (s.modCh ch fun c => c.completed op out) := by
      refine modCh_bound hbound ?_ ⟨rfl, rfl⟩
      cases out <;> exact nofun
    have htally : SettingsKept s (if op.kind.isPrint && op.linePlaced
        then requestTally ch (s.modCh ch fun c => c.completed op out)
        else s.modCh ch fun c => c.completed op out) := by
      split
      · exact hdone.trans (requestTally_settings ..)
      · exact hdone
    dsimp only
    split
    · exact htally
    · exact htally.trans (applyPending_settings (htally.bound hbound))
  next => exact .refl s

theorem loadMove_settings (ch : ChannelId) (t : Tape) (s : State) : SettingsKept s (loadMove ch t s) := by
  have hinstall : SettingsKept s (installTape ch t s) := modCh_registers ⟨rfl, rfl, rfl⟩
  unfold loadMove
  split
  · exact hinstall.trans (complete_settings ..)
  · split
    · exact hinstall.trans (complete_settings ..)
    · split
      · exact (hinstall.trans (routeClose_settings ..)).trans (complete_settings ..)
      · exact joinRoom_settings ..

theorem carriageMove_settings (ch : ChannelId) (op : Op) (s : State) :
    SettingsKept s (carriageMove ch op s) := by
  unfold carriageMove
  split
  · exact .refl s
  · split
    · exact complete_settings ..
    · dsimp only
      split
      · exact (makeMove_settings ..).trans (complete_settings ..)
      · exact joinRoom_settings ..

theorem tryMove_settings (ch : ChannelId) (s : State) : SettingsKept s (tryMove ch s) := by
  unfold tryMove
  split
  next op hbusy =>
    split
    · split
      · exact panelMove_settings (by rw [hbusy]; exact nofun)
      · split
        · exact loadMove_settings ..
        · exact .refl s
      · exact carriageMove_settings ..
    · exact .refl s
  next => exact .refl s

theorem retryLines_settings (l : List ChannelId) (s : State) : SettingsKept s (retryLines l s) := by
  induction l generalizing s with
  | nil => exact .refl s
  | cons ch rest ih =>
    unfold retryLines
    split
    · exact .refl s
    · split
      · refine SettingsKept.trans ?_ (ih _)
        refine SettingsKept.trans ?_ (tryMove_settings ..)
        exact SettingsKept.after (mergeLine_settings ..) rfl rfl
      · exact .refl s

theorem forceIfDry_settings (s : State) : SettingsKept s (forceIfDry s) := by
  unfold forceIfDry
  split
  · dsimp only
    split
    · exact (forcedBreak_settings ..).trans (retryLines_settings ..)
    · exact forcedBreak_settings ..
  · exact .refl s

theorem afterFreeing_settings (s : State) : SettingsKept s (afterFreeing s) :=
  (retryLines_settings ..).trans (forceIfDry_settings _)

theorem settleFrom_settings (n : Nat) (s : State) : SettingsKept s (settleFrom n s) := by
  unfold settleFrom
  split
  · exact afterFreeing_settings s
  · exact .refl s

theorem moveOn_settings (ch : ChannelId) (s : State) : SettingsKept s (moveOn ch s) :=
  (tryMove_settings ..).trans (settleFrom_settings ..)

theorem endOp_settings (ch : ChannelId) (out : OpOutcome) (s : State) : SettingsKept s (endOp ch out s) :=
  (complete_settings ..).trans (settleFrom_settings ..)

theorem placeLineNow_settings (ch : ChannelId) (k : List Strike) (s : State) :
    SettingsKept s (placeLineNow ch k s) := by
  unfold placeLineNow
  dsimp only
  split
  · exact (mergeLine_settings ..).trans (moveOn_settings ..)
  · exact SettingsKept.after (forceIfDry_settings _) rfl rfl

theorem takeRunOut_settings (ch : ChannelId) (s : State) : SettingsKept s (takeRunOut ch s) := by
  have hdrop : SettingsKept s (s.modCh ch fun c => { c with runOutDue := false }) :=
    modCh_registers ⟨rfl, rfl, rfl⟩
  unfold takeRunOut
  dsimp only
  split
  · exact (hdrop.trans (breakForm_settings ..)).trans (releaseSheet_settings ..)
  · exact hdrop.trans (releaseSheet_settings ..)

theorem tryRunOut_settings (ch : ChannelId) (s : State) : SettingsKept s (tryRunOut ch s) := by
  unfold tryRunOut
  split
  · exact takeRunOut_settings ..
  · exact joinRoom_settings ..

theorem takeClaim_settings (x : Claim) (s : State) : SettingsKept s (takeClaim x s) := by
  unfold takeClaim
  cases x with
  | move ch => exact SettingsKept.after (tryMove_settings ..) rfl rfl
  | runOut ch => exact SettingsKept.after (takeRunOut_settings ..) rfl rfl

theorem offerClaims_settings (l : List Claim) (s : State) : SettingsKept s (offerClaims l s) := by
  induction l generalizing s with
  | nil => exact .refl s
  | cons x rest ih =>
    unfold offerClaims
    split
    · exact (takeClaim_settings x s).trans (ih _)
    · exact ih s

theorem offerPlace_settings (s : State) : SettingsKept s (offerPlace s) :=
  (offerClaims_settings ..).trans (settleFrom_settings ..)

theorem endLine_settings (ch : ChannelId) (r : LineRec) (s : State) : SettingsKept s (endLine ch r s) := by
  unfold endLine
  dsimp only
  split
  · exact (modCh_registers ⟨rfl, rfl, rfl⟩).trans (endOp_settings ..)
  · exact (((modCh_registers ⟨rfl, rfl, rfl⟩).trans (modCh_registers ⟨rfl, rfl, rfl⟩)).trans
      (setStage_settings ..)).trans (placeLineNow_settings ..)

/-! ### The link and the tick -/

theorem setAttempts_settings (n : Nat) (s : State) : SettingsKept s (setAttempts n s) := by
  unfold setAttempts
  split <;> exact .of_eq rfl rfl

theorem failAttempt_settings (s : State) : SettingsKept s (failAttempt s) := by
  unfold failAttempt
  split
  · exact .refl s
  · dsimp only
    split
    · exact (setAttempts_settings ..).trans (.of_eq rfl rfl)
    · exact (setAttempts_settings ..).trans (.of_eq rfl rfl)

theorem leaveQueue_settings (s : State) : SettingsKept s (leaveQueue s) := by
  unfold leaveQueue
  split
  · exact .refl s
  · refine SettingsKept.trans ?_ (startSheet_settings _)
    refine SettingsKept.trans ?_
      (SettingsKept.after (s := offerPlace _) (afterFreeing_settings _) rfl rfl)
    exact SettingsKept.after (offerPlace_settings _) rfl rfl

theorem acceptSheet_settings (sh : Sheet) (s : State) : SettingsKept s (acceptSheet sh s) :=
  (modCh_registers (s := s) (ch := sh.channel)
    (f := fun c => { c with sheetsAccepted := satAdd c.sheetsAccepted 1 }) ⟨rfl, rfl, rfl⟩).trans
    (SettingsKept.after (leaveQueue_settings _) rfl rfl)

theorem rejectSheet_settings (sh : Sheet) (s : State) : SettingsKept s (rejectSheet sh s) := by
  have hmark : SettingsKept s
      (s.modCh sh.channel fun c => if c.state.isOffline then c else { c with check := true }) := by
    refine modCh_registers ?_
    split <;> exact ⟨rfl, rfl, rfl⟩
  exact hmark.trans (SettingsKept.after (leaveQueue_settings _) rfl rfl)

theorem takeReply_settings (k : ReplyKind) (n : Word) (s : State) : SettingsKept s (takeReply k n s) := by
  have hignore : SettingsKept s (ignoreReply s) := .of_eq rfl rfl
  unfold takeReply
  split
  · split
    · split
      · exact acceptSheet_settings ..
      · exact rejectSheet_settings ..
      · exact failAttempt_settings ..
      · exact .refl s
    · exact hignore
  · exact hignore

theorem takeLife_settings (s : State) : SettingsKept s (takeLife s) := by
  unfold takeLife
  split
  · exact .of_eq rfl rfl
  · dsimp only
    split
    · exact SettingsKept.after (startSheet_settings _) rfl rfl
    · exact .of_eq rfl rfl
  · exact .of_eq rfl rfl

theorem takeFrame_settings (k : ReplyKind) (p : List Byte) (s : State) :
    SettingsKept s (takeFrame k p s) := by
  unfold takeFrame
  dsimp only
  split
  · exact takeLife_settings s
  · exact (takeLife_settings s).trans (takeReply_settings ..)

theorem setReceiver_settings (r : Receiver) (s : State) : SettingsKept s (setReceiver r s) := .of_eq rfl rfl

theorem countBadFrame_settings (s : State) : SettingsKept s (countBadFrame s) := .of_eq rfl rfl

theorem receiveInFrame_settings (b : List Byte) (s : State) : SettingsKept s (receiveInFrame b s) := by
  have hhunt := setReceiver_settings (.hunting false) s
  unfold receiveInFrame
  split
  · exact setReceiver_settings ..
  · split
    · exact hhunt.trans (countBadFrame_settings _)
    · split
      · exact setReceiver_settings ..
      · split
        · exact hhunt.trans (takeFrame_settings ..)
        · exact hhunt.trans (countBadFrame_settings _)

theorem receiveByte_settings (s : State) (b : Byte) : SettingsKept s (receiveByte s b) := by
  unfold receiveByte
  split
  · split <;> exact setReceiver_settings ..
  · exact receiveInFrame_settings ..

theorem receive_settings (l : List Byte) (s : State) : SettingsKept s (receive l s) := by
  induction l generalizing s with
  | nil => exact .refl s
  | cons b rest ih => exact (receiveByte_settings s b).trans (ih _)

theorem sendRow_settings (s : State) : SettingsKept s (sendRow s) := by
  unfold sendRow
  repeat' split
  all_goals exact .of_eq rfl rfl

theorem sendEnd_settings (s : State) : SettingsKept s (sendEnd s) := by
  unfold sendEnd
  repeat' split
  all_goals exact .of_eq rfl rfl

theorem resendSheet_settings (s : State) : SettingsKept s (resendSheet s) := by
  unfold resendSheet
  split <;> exact .of_eq rfl rfl

theorem tickLink_settings (s : State) : SettingsKept s (tickLink s) := by
  unfold tickLink
  split
  · exact .refl s
  · split
    · exact .of_eq rfl rfl
    · dsimp only
      split
      · split
        · exact SettingsKept.after (failAttempt_settings _) rfl rfl
        · exact .of_eq rfl rfl
      · split
        · exact SettingsKept.after (resendSheet_settings _) rfl rfl
        · exact .of_eq rfl rfl
      · exact .of_eq rfl rfl

theorem startLink_settings (s : State) : SettingsKept s (startLink s) := by
  unfold startLink
  split
  · exact (setAttempts_settings ..).trans (startSheet_settings _)
  · exact .refl s

theorem tickStall_settings (ch : ChannelId) (s : State) : SettingsKept s (tickStall ch s) := by
  refine modCh_registers ?_
  split <;> exact ⟨rfl, rfl, rfl⟩

theorem tickRunOut_settings (ch : ChannelId) (s : State) : SettingsKept s (tickRunOut ch s) := by
  unfold tickRunOut
  split
  · dsimp only
    split
    · exact (((modCh_registers ⟨rfl, rfl, rfl⟩).trans (modCh_registers ⟨rfl, rfl, rfl⟩)).trans
        (tryRunOut_settings ..)).trans (settleFrom_settings ..)
    · exact modCh_registers ⟨rfl, rfl, rfl⟩
  · exact .refl s

theorem goClear_settings (ch : ChannelId) (s : State) : SettingsKept s (goClear ch s) := by
  unfold goClear
  split
  · exact modCh_registers ⟨rfl, rfl, rfl⟩
  · exact .refl s
  next hbusy hoffline =>
    have hclear : SettingsKept s (s.modCh ch Channel.cleared) := by
      refine modCh_bound hoffline ?_ ⟨rfl, rfl⟩
      unfold Channel.cleared
      dsimp only
      split
      · exact nofun
      · exact hoffline
    dsimp only
    split
    · exact hclear
    · exact hclear.trans (requestTally_settings ..)

theorem refuseGo_settings (ch : ChannelId) (s : State) : SettingsKept s (refuseGo ch s) :=
  modCh_registers ⟨rfl, rfl, rfl⟩

theorem ejectChannel_settings (ch : ChannelId) (s : State) : SettingsKept s (ejectChannel ch s) := by
  unfold ejectChannel
  split
  next hidle =>
    split
    · exact (startEject_settings (by rw [hidle]; exact nofun)).trans (settleFrom_settings ..)
    · exact .refl s
  next hstopped =>
    split
    · have hpend : SettingsKept s (s.modCh ch fun c => { c with pendStop := true }) :=
        modCh_registers ⟨rfl, rfl, rfl⟩
      exact (hpend.trans (startEject_settings (hpend.bound (by rw [hstopped]; exact nofun)))).trans
        (settleFrom_settings ..)
    · exact .refl s
  · exact modCh_registers ⟨rfl, rfl, rfl⟩
  · exact .refl s

theorem stopChannel_settings (ch : ChannelId) (s : State) : SettingsKept s (stopChannel ch s) := by
  refine .modCh ⟨?_, ?_, ?_⟩
  all_goals split <;> simp_all

theorem startChannel_settings (ch : ChannelId) (s : State) : SettingsKept s (startChannel ch s) := by
  refine .modCh ⟨?_, ?_, ?_⟩
  all_goals split <;> simp_all

theorem claimAlone_settings (x : Claim) (s : State) : SettingsKept s (claimAlone x s) :=
  (takeClaim_settings ..).trans (settleFrom_settings ..)

theorem disposeForms_settings (ch : ChannelId) (s : State) : SettingsKept s (disposeForms ch s) := by
  have hdrop : SettingsKept s (s.modCh ch fun c => { c with paper := none }) :=
    modCh_registers ⟨rfl, rfl, rfl⟩
  unfold disposeForms
  split
  · exact releaseSheet_settings ..
  · dsimp only
    split
    · exact (hdrop.trans (routeClose_settings ..)).trans (releaseSheet_settings ..)
    · exact hdrop.trans (releaseSheet_settings ..)

end Sys2Proof.Machine
end

section
/-! SUPPORT. What the memory path keeps under every operation: the window table and the bindings, the shadow, the
bounds of the own-cycle queue and the passed-over count, the sizes of the device tables (R122 to R126, R129, R133,
R137). -/

namespace Sys2Proof.Machine

/-! ### Fetch places -/

@[simp] theorem giveListed_ownQueue (s : State) (req : Requester) :
    (s.giveListed req).ownQueue = s.ownQueue := by
  unfold State.giveListed
  repeat' split
  all_goals rfl

theorem giveListed_channels (s : State) (req : Requester) : ChannelsKept s (s.giveListed req) := by
  unfold State.giveListed
  repeat' split
  all_goals first
    | exact (setStage_settings ..).channels
    | exact .of_chans rfl

theorem giveListed_tables {s : State} (req : Requester) (h : TablesOk s) : TablesOk (s.giveListed req) := by
  unfold State.giveListed
  repeat' split
  all_goals exact h

theorem grantPlace_channels (s : State) : ChannelsKept s (grantPlace s) := by
  unfold grantPlace
  split
  · exact .refl s
  · split
    · exact .of_chans rfl
    · exact (giveListed_channels s _).trans (.of_chans rfl)

theorem grantPlace_tables {s : State} (h : TablesOk s) : TablesOk (grantPlace s) := by
  unfold grantPlace
  split
  · exact h
  · split
    · exact h
    · exact giveListed_tables _ h

/-- A grant puts one FETCH at most into the queue, at its tail (R130). -/
theorem grantPlace_ownQueue (s : State) :
    (grantPlace s).ownQueue = s.ownQueue ∨ ∃ req w, (grantPlace s).ownQueue = s.ownQueue ++ [.fetch req w] := by
  unfold grantPlace
  split
  · exact .inl rfl
  next req rest _ =>
    split
    · exact .inl rfl
    next w more _ => exact .inr ⟨req, w, by simp⟩

theorem grantPlace_fetches_le (s : State) :
    (grantPlace s).ownQueue.countP OwnEntry.isFetch ≤ s.ownQueue.countP OwnEntry.isFetch + 1 := by
  obtain h | ⟨req, w, h⟩ := grantPlace_ownQueue s
  · simp [h]
  · simp [h, OwnEntry.isFetch]

theorem grantPlace_tallies (s : State) (i : ChannelId) :
    (grantPlace s).ownQueue.countP (OwnEntry.isTallyOf i) = s.ownQueue.countP (OwnEntry.isTallyOf i) := by
  obtain h | ⟨req, w, h⟩ := grantPlace_ownQueue s
  · rw [h]
  · simp [h, OwnEntry.isTallyOf]

theorem grantPlaces_channels (n : Nat) (s : State) : ChannelsKept s (grantPlaces n s) := by
  induction n generalizing s with
  | zero => exact .refl s
  | succ n ih => exact (grantPlace_channels s).trans (ih _)

theorem grantPlaces_tables (n : Nat) {s : State} (h : TablesOk s) : TablesOk (grantPlaces n s) := by
  induction n generalizing s with
  | zero => exact h
  | succ n ih => exact ih (grantPlace_tables h)

theorem grantPlaces_fetches_le (n : Nat) (s : State) :
    (grantPlaces n s).ownQueue.countP OwnEntry.isFetch ≤ s.ownQueue.countP OwnEntry.isFetch + n := by
  induction n generalizing s with
  | zero => exact Nat.le_refl _
  | succ n ih =>
    have hfirst := grantPlace_fetches_le s
    have hrest := ih (grantPlace s)
    rw [grantPlaces]
    omega

theorem grantPlaces_tallies (n : Nat) (s : State) (i : ChannelId) :
    (grantPlaces n s).ownQueue.countP (OwnEntry.isTallyOf i) = s.ownQueue.countP (OwnEntry.isTallyOf i) := by
  induction n generalizing s with
  | zero => rfl
  | succ n ih => rw [grantPlaces, ih, grantPlace_tallies]

/-- As many places as are free can be granted (R129, R130). -/
theorem OwnQueueOk.grantPlaces {s : State} (h : OwnQueueOk s) {n : Nat} (hn : n ≤ s.freeFetchPlaces) :
    OwnQueueOk (grantPlaces n s) := by
  obtain ⟨hfetches, htallies⟩ := h
  refine ⟨?_, fun i hi => (grantPlaces_tallies n s i).trans_le (htallies i hi)⟩
  have hle := grantPlaces_fetches_le n s
  have hplaces : n ≤ Config.fetchPlaces - s.ownQueue.countP OwnEntry.isFetch := hn
  omega

theorem askPlaces_channels (req : Requester) (s : State) : ChannelsKept s (askPlaces req s) := by
  unfold askPlaces
  split
  · exact .refl s
  · split
    · exact ChannelsKept.trans (t := { s with placeWait := [req] }) (.of_chans rfl) (grantPlaces_channels _ _)
    · exact .of_chans rfl

theorem askPlaces_tables (req : Requester) {s : State} (h : TablesOk s) : TablesOk (askPlaces req s) := by
  unfold askPlaces
  split
  · exact h
  · split
    · exact grantPlaces_tables _ h
    · exact h

theorem OwnQueueOk.askPlaces (req : Requester) {s : State} (h : OwnQueueOk s) :
    OwnQueueOk (askPlaces req s) := by
  unfold Machine.askPlaces
  split
  · exact h
  · split
    · exact OwnQueueOk.grantPlaces (s := { s with placeWait := [req] }) h (Nat.le_refl _)
    · exact h

/-! ### Operations that may fetch -/

/-- What an operation that may fetch keeps of the channels, the own-cycle queue and the device tables. -/
structure TakingKept (s t : State) : Prop where
  channels : ChannelsKept s t
  ownQueue : OwnQueueOk s → OwnQueueOk t
  tables : TablesOk s → TablesOk t

theorem TakingKept.refl (s : State) : TakingKept s s := ⟨.refl s, id, id⟩

theorem TakingKept.trans {s t u : State} (h : TakingKept s t) (k : TakingKept t u) : TakingKept s u :=
  ⟨h.channels.trans k.channels, fun hs => k.ownQueue (h.ownQueue hs), fun hs => k.tables (h.tables hs)⟩

theorem QueueKept.ownQueueOk {s t : State} (h : QueueKept s.ownQueue t.ownQueue) (hs : OwnQueueOk s) :
    OwnQueueOk t := by
  refine ⟨?_, fun i hi => h.tallies i (hs.2 i hi)⟩
  rw [List.countP_eq_length_filter, h.fetches, ← List.countP_eq_length_filter]
  exact hs.1

/-- A printing operation is one that fetches nothing. -/
theorem SettingsKept.taking {s t : State} (h : SettingsKept s t) (hsetup : t.setup = s.setup) :
    TakingKept s t :=
  ⟨h.channels, h.ownQueue.ownQueueOk, fun hs => by rw [TablesOk, hsetup]; exact hs⟩

theorem modCh_taking {s : State} {ch : ChannelId} {f : Channel → Channel}
    (h : SettingsKept s (s.modCh ch f)) : TakingKept s (s.modCh ch f) := h.taking rfl

theorem askPlaces_taking (req : Requester) (s : State) : TakingKept s (askPlaces req s) :=
  ⟨askPlaces_channels req s, OwnQueueOk.askPlaces req, askPlaces_tables req⟩

theorem setStage_taking (s : State) (ch : ChannelId) (st : Stage) : TakingKept s (s.setStage ch st) :=
  (setStage_settings s ch st).taking rfl

theorem endLine_taking (ch : ChannelId) (r : LineRec) (s : State) : TakingKept s (endLine ch r s) :=
  (endLine_settings ch r s).taking (endLine_kept ch r s).setup

theorem moveOn_taking (ch : ChannelId) (s : State) : TakingKept s (moveOn ch s) :=
  (moveOn_settings ch s).taking (moveOn_kept ch s).setup

theorem endOp_taking (ch : ChannelId) (out : OpOutcome) (s : State) : TakingKept s (endOp ch out s) :=
  (endOp_settings ch out s).taking (endOp_kept ch out s).setup

theorem goOnLine_taking (ch : ChannelId) (r : LineRec) (s : State) : TakingKept s (goOnLine ch r s) := by
  unfold goOnLine
  split
  · exact endLine_taking ..
  · exact (setStage_taking ..).trans (askPlaces_taking ..)

theorem deliverLine_taking (ch : ChannelId) (vp : Bool) (r : LineRec) (d : Dest) (hi lo : Option Byte)
    (s : State) : TakingKept s (deliverLine ch vp r d hi lo s) := by
  unfold deliverLine
  split
  · dsimp only
    split
    · exact goOnLine_taking ..
    · exact (modCh_taking (modCh_registers ⟨rfl, rfl, rfl⟩)).trans (goOnLine_taking ..)
  · exact (modCh_taking (modCh_registers ⟨rfl, rfl, rfl⟩)).trans (goOnLine_taking ..)
  · exact .refl s

theorem goOnTape_taking (ch : ChannelId) (r : TapeRec) (s : State) : TakingKept s (goOnTape ch r s) := by
  have hasks : TakingKept s (askPlaces (.operation ch) (s.setStage ch (.takingTape r))) :=
    (setStage_taking ..).trans (askPlaces_taking ..)
  unfold goOnTape
  split
  · split
    · exact (setStage_taking ..).trans (moveOn_taking ..)
    · exact hasks
  · exact hasks

theorem fixTape_taking (ch : ChannelId) (v : Word) (r : TapeRec) (s : State) :
    TakingKept s (fixTape ch v r s) := by
  unfold fixTape
  split
  · exact goOnTape_taking ..
  · exact endOp_taking ..

theorem beginTape_taking (ch : ChannelId) (s : State) : TakingKept s (beginTape ch s) := by
  unfold beginTape
  dsimp only
  split
  · exact fixTape_taking ..
  · exact goOnTape_taking ..

theorem deliverTape_taking (ch : ChannelId) (r : TapeRec) (d : Dest) (hi lo : Option Byte) (s : State) :
    TakingKept s (deliverTape ch r d hi lo s) := by
  unfold deliverTape
  split
  · dsimp only
    split
    · split
      · exact fixTape_taking ..
      · exact endOp_taking ..
    · exact goOnTape_taking ..
  · exact .refl s

theorem startOp_taking {ch : ChannelId} (op : Op) {s : State} (h : (s.ch ch).state ≠ .offline) :
    TakingKept s (startOp ch op s) := (startOp_settings op h).taking rfl

theorem refuseGo_taking (ch : ChannelId) (s : State) : TakingKept s (refuseGo ch s) :=
  (refuseGo_settings ch s).taking rfl

theorem takeGo_taking (ch : ChannelId) (w : Word) (s : State) : TakingKept s (takeGo ch w s) := by
  unfold takeGo
  split
  · exact (goClear_settings ch s).taking (goClear_kept ch s).setup
  · unfold goLoad
    split
    next hidle => exact (startOp_taking _ (by rw [hidle]; exact nofun)).trans (beginTape_taking ..)
    · exact .refl s
    · exact refuseGo_taking ..
  · unfold goMove
    split
    next hidle =>
      have hbound : (s.ch ch).state ≠ .offline := by rw [hidle]; exact nofun
      split
      · dsimp only
        split
        · exact (startOp_taking _ hbound).trans (goOnLine_taking ..)
        · exact (startOp_taking _ hbound).trans (moveOn_taking ..)
      · exact refuseGo_taking ..
    · exact .refl s
    · exact refuseGo_taking ..

theorem commandWrite_taking (ch : ChannelId) (w : BusWrite) (s : State) :
    TakingKept s (commandWrite ch w s) := by
  unfold commandWrite
  dsimp only
  split
  · exact (modCh_taking (modCh_registers ⟨rfl, rfl, rfl⟩)).trans (takeGo_taking ..)
  · exact modCh_taking (modCh_registers ⟨rfl, rfl, rfl⟩)

theorem tickSample_taking (ch : ChannelId) (s : State) : TakingKept s (tickSample ch s) := by
  unfold tickSample
  dsimp only
  split
  · split
    · exact (modCh_taking (modCh_registers ⟨rfl, rfl, rfl⟩)).trans (takeGo_taking ..)
    · exact modCh_taking (modCh_registers ⟨rfl, rfl, rfl⟩)
  · exact .refl s

theorem channelTick_taking (ch : ChannelId) (s : State) : TakingKept s (channelTick ch s) := by
  unfold channelTick
  split
  · exact .refl s
  · exact ((modCh_taking (tickStall_settings ch s)).trans
      ((tickRunOut_settings ..).taking (tickRunOut_kept ..).setup)).trans (tickSample_taking ..)

/-! ### The window table (R122, R123) -/

/-- The window table and its bindings. -/
def WindowsInv (s : State) : Prop := WindowsOk s ∧ BindingOk s

theorem WindowsInv.congr {s t : State} (h : WindowsInv s) (hwindows : t.windows = s.windows)
    (hoffline : ∀ i, (t.ch i).state = .offline ↔ (s.ch i).state = .offline) : WindowsInv t := by
  obtain ⟨hok, hbinding⟩ := h
  refine ⟨by rwa [WindowsOk, hwindows], fun i hi => ?_⟩
  rw [State.channelWindows, hwindows, if_congr (hoffline i) rfl rfl]
  exact hbinding i hi

/-- Every window is the setup window's or a channel's. -/
theorem length_windows_by_channel (ws : List Window) :
    ws.length = ws.countP (fun w => decide (w.role = .setup)) +
      (allChannels.map fun ch => (ws.filter fun w => decide (w.role.channel = some ch)).length).sum := by
  induction ws with
  | nil => rfl
  | cons w ws ih =>
    obtain ⟨base, role⟩ := w
    rw [List.length_cons, ih]
    cases role with
    | setup => simp [allChannels, Role.channel]; omega
    | control ch => cases ch <;> simp [allChannels, List.filter_cons, Role.channel] <;> omega
    | pages ch => cases ch <;> simp [allChannels, List.filter_cons, Role.channel] <;> omega
    | tape ch => cases ch <;> simp [allChannels, List.filter_cons, Role.channel] <;> omega

theorem BindingOk.length_channelWindows_le {s : State} (h : BindingOk s) {ch : ChannelId}
    (hch : ch ∈ allChannels) : (s.channelWindows ch).length ≤ 3 := by
  have hroles := congrArg List.length (h ch hch)
  rw [List.length_map] at hroles
  rw [hroles]
  split <;> simp

/-- One setup window and three windows a bound channel are 13 at most. -/
theorem BindingOk.length_windows_le {s : State} (h : BindingOk s)
    (hsetup : s.windows.countP (fun w => decide (w.role = .setup)) = 1) : s.windows.length ≤ 16 := by
  have hlength := length_windows_by_channel s.windows
  have h0 := h.length_channelWindows_le (ch := .c0) (by decide)
  have h1 := h.length_channelWindows_le (ch := .c1) (by decide)
  have h2 := h.length_channelWindows_le (ch := .c2) (by decide)
  have h3 := h.length_channelWindows_le (ch := .c3) (by decide)
  simp only [State.channelWindows] at h0 h1 h2 h3
  simp only [allChannels, List.map_cons, List.map_nil, List.sum_cons, List.sum_nil] at hlength
  omega

theorem Window.overlaps_comm (v w : Window) : v.overlaps w = w.overlaps v := by
  simp only [Window.overlaps, Bool.and_comm]

theorem countP_setup_otherWindows (s : State) (ch : ChannelId) :
    (s.otherWindows ch).countP (fun w => decide (w.role = .setup)) =
      s.windows.countP (fun w => decide (w.role = .setup)) := by
  rw [State.otherWindows, List.countP_filter]
  refine List.countP_congr fun w _ => ?_
  cases hrole : w.role <;> simp [Role.channel]

theorem channelWindows_of_other {s : State} {ch i : ChannelId} (h : i ≠ ch) :
    ((s.otherWindows ch).filter fun w => decide (w.role.channel = some i)) = s.channelWindows i := by
  rw [State.otherWindows, State.channelWindows, List.filter_filter]
  refine List.filter_congr fun w _ => ?_
  by_cases hw : w.role.channel = some i <;> simp [hw, h]

theorem channelWindows_of_own (s : State) (ch : ChannelId) :
    ((s.otherWindows ch).filter fun w => decide (w.role.channel = some ch)) = [] := by
  rw [State.otherWindows, List.filter_filter, List.filter_eq_nil_iff]
  intro w _
  simp

/-! ### The fields of a CHANNEL record -/

theorem baseOf_le {hi lo : Word} {limit : Nat} {a : Addr} (h : baseOf hi lo limit = some a) :
    a.toNat ≤ limit := by
  unfold baseOf at h
  split at h
  next hfits =>
    cases h
    rw [BitVec.toNat_ofNat]
    exact (Nat.mod_le _ _).trans hfits.2
  next => cases h

/-- The bases of a CHANNEL record leave room for their windows (R143). -/
theorem channelRecordOf_bases {r : ApplyRec} {x : ChannelRecord} (h : channelRecordOf r = some x) :
    x.control.toNat ≤ 1048572 ∧ x.pages.toNat ≤ 1048416 ∧ x.tape.toNat ≤ 1048383 := by
  simp only [channelRecordOf, Option.bind_eq_bind, Option.bind_eq_some_iff, Option.pure_def,
    Option.some.injEq] at h
  obtain ⟨_, _, control, hcontrol, pages, hpages, tape, htape, _, _, _, _, _, _, _, _, rfl⟩ := h
  exact ⟨baseOf_le hcontrol, baseOf_le hpages, baseOf_le htape⟩

theorem ChannelRecord.windows_fit {r : ApplyRec} {x : ChannelRecord} (h : channelRecordOf r = some x) :
    ∀ w ∈ x.windows, w.base.toNat + w.role.length ≤ 1048576 := by
  obtain ⟨hcontrol, hpages, htape⟩ := channelRecordOf_bases h
  intro w hw
  simp only [ChannelRecord.windows, List.mem_cons, List.not_mem_nil, or_false] at hw
  obtain rfl | rfl | rfl := hw
  · simp only [Role.length]; omega
  · simp only [Role.length]; omega
  · simp only [Role.length]; omega

/-- The window check passed: no new window overlaps a new one or one of the others (R123). -/
theorem windowClash_eq_false {x : ChannelRecord} {s : State} (h : windowClash x s = false) :
    x.windows.Pairwise (fun v w => v.overlaps w = false) ∧
      ∀ v ∈ x.windows, ∀ w ∈ s.otherWindows x.target, v.overlaps w = false := by
  simp only [windowClash, Bool.or_eq_false_iff, List.any_eq_false] at h
  obtain ⟨⟨⟨hcp, hct⟩, hpt⟩, hothers⟩ := h
  refine ⟨by simp [ChannelRecord.windows, hcp, hct, hpt], fun v hv w hw => ?_⟩
  simpa using List.any_eq_false.mp (by simpa using hothers v hv) w hw

theorem Channel.bound_state (c : Channel) (x : ChannelRecord) : (c.bound x).state ≠ .offline := by
  unfold Channel.bound
  split
  · exact nofun
  next hoffline => exact hoffline

/-- A CHANNEL record that passes its checks leaves a table in order and its channel bound (R23, R123). -/
theorem WindowsInv.bind {r : ApplyRec} {x : ChannelRecord} {s : State} (h : WindowsInv s)
    (hx : channelRecordOf r = some x) (hclash : windowClash x s = false) :
    WindowsInv (setResult .done ((bindWindows x s).modCh x.target fun c => c.bound x)) := by
  obtain ⟨⟨_, hsetup, hpairwise, hfit⟩, hbinding⟩ := h
  obtain ⟨hnew, hcross⟩ := windowClash_eq_false hclash
  have hbound : BindingOk (setResult .done ((bindWindows x s).modCh x.target fun c => c.bound x)) := by
    intro i hi
    change ((s.otherWindows x.target ++ x.windows).filter _).map _ = _
    rw [List.filter_append, setResult_ch]
    by_cases htarget : i = x.target
    · subst htarget
      rw [channelWindows_of_own, State.ch_modCh_same, if_neg (Channel.bound_state _ x)]
      simp [ChannelRecord.windows, Role.channel]
    · rw [channelWindows_of_other htarget, State.ch_modCh_other _ _ htarget, bindWindows_ch]
      have hnone : x.windows.filter (fun w => decide (w.role.channel = some i)) = [] := by
        simp [ChannelRecord.windows, Role.channel, Ne.symm htarget]
      rw [hnone, List.append_nil]
      exact hbinding i hi
  have hcount : (s.otherWindows x.target ++ x.windows).countP (fun w => decide (w.role = .setup)) = 1 := by
    rw [List.countP_append, countP_setup_otherWindows, hsetup]
    simp [ChannelRecord.windows]
  refine ⟨⟨hbound.length_windows_le hcount, hcount, ?_, ?_⟩, hbound⟩
  · refine List.pairwise_append.mpr ⟨List.Pairwise.filter _ hpairwise, hnew, fun v hv w hw => ?_⟩
    rw [Window.overlaps_comm]
    exact hcross w hw v hv
  · intro w hw
    obtain hw | hw := List.mem_append.mp hw
    · exact hfit w (List.mem_of_mem_filter hw)
    · exact ChannelRecord.windows_fit hx w hw

/-- A channel that goes OFFLINE leaves a table in order (R23, R123). -/
theorem WindowsInv.unbind {ch : ChannelId} {s : State} (h : WindowsInv s) :
    WindowsInv (unbindWindows ch (s.modCh ch Channel.disabled)) := by
  obtain ⟨⟨_, hsetup, hpairwise, hfit⟩, hbinding⟩ := h
  have hbound : BindingOk (unbindWindows ch (s.modCh ch Channel.disabled)) := by
    intro i hi
    change ((s.otherWindows ch).filter _).map _ = _
    rw [unbindWindows_ch]
    by_cases htarget : i = ch
    · subst htarget
      rw [channelWindows_of_own, State.ch_modCh_same,
        if_pos (show ((s.ch i).disabled).state = .offline from rfl)]
      rfl
    · rw [channelWindows_of_other htarget, State.ch_modCh_other _ _ htarget]
      exact hbinding i hi
  have hcount : (s.otherWindows ch).countP (fun w => decide (w.role = .setup)) = 1 := by
    rw [countP_setup_otherWindows, hsetup]
  exact ⟨⟨hbound.length_windows_le hcount, hcount, List.Pairwise.filter _ hpairwise,
    fun w hw => hfit w (List.mem_of_mem_filter hw)⟩, hbound⟩

end Sys2Proof.Machine
end

section
/-! SUPPORT. The shadow's bytes stay within the windows (R123 to R126). -/

namespace Sys2Proof.Machine

theorem Memory.mem_put {m : Memory} {a : Nat} {v : Option Byte} {x : Host.Cell} (h : x ∈ m.put a v) :
    x.1 = a ∨ x ∈ m := by
  cases v with
  | none => exact .inr (List.mem_of_mem_filter h)
  | some b =>
    obtain rfl | h := Memory.mem_write h
    · exact .inl rfl
    · exact .inr h

theorem Memory.mem_putWord {m : Memory} {a : Addr} {hi lo : Option Byte} {x : Host.Cell}
    (h : x ∈ m.putWord a hi lo) : x.1 = hiKey a ∨ x.1 = loKey a ∨ x ∈ m := by
  obtain h | h := Memory.mem_put h
  · exact .inr (.inl h)
  · exact (Memory.mem_put h).imp_right .inr

theorem mem_shadowHostWrite {w : BusWrite} {ans : WriteAnswer} {m : Memory} {x : Host.Cell}
    (h : x ∈ shadowHostWrite w ans m) : x.1 = hiKey w.addr ∨ x.1 = loKey w.addr ∨ x ∈ m := by
  unfold shadowHostWrite at h
  dsimp only at h
  split at h
  · obtain h | h := Memory.mem_put h
    · exact .inr (.inl h)
    · split at h
      · exact (Memory.mem_put h).imp_right .inr
      · exact .inr (.inr h)
  · split at h
    · exact (Memory.mem_put h).imp_right .inr
    · exact .inr (.inr h)

/-- The byte addresses that a window covers. -/
def Window.holds (w : Window) (k : Nat) : Prop :=
  2 * w.base.toNat ≤ k ∧ k < 2 * (w.base.toNat + w.role.length)

theorem Window.covers_iff (w : Window) (a : Addr) :
    w.covers a = true ↔ w.base.toNat ≤ a.toNat ∧ a.toNat < w.base.toNat + w.role.length := by
  rw [Window.covers, Bool.and_eq_true, decide_eq_true_iff, decide_eq_true_iff]

theorem Window.holds_keys {w : Window} {a : Addr} (h : w.covers a = true) :
    w.holds (hiKey a) ∧ w.holds (loKey a) := by
  rw [Window.covers_iff] at h
  unfold Window.holds hiKey loKey
  omega

/-- An address found in the table lies in one of its windows. -/
theorem findWindow_covers {s : State} {a : Addr} (h : (s.findWindow a).isSome = true) :
    ∃ w ∈ s.windows, w.covers a = true := by
  obtain ⟨w, hw⟩ := Option.isSome_iff_exists.mp h
  exact ⟨w, List.mem_of_find?_eq_some hw, by simpa using List.find?_some hw⟩

theorem ShadowOk.congr {s t : State} (h : ShadowOk s) (hwindows : t.windows = s.windows)
    (hshadow : t.shadow = s.shadow) : ShadowOk t := by
  rw [ShadowOk, hwindows, hshadow]
  exact h

/-- A shadow whose new bytes are those of a window's word. -/
theorem ShadowOk.word {s t : State} (h : ShadowOk s) (hwindows : t.windows = s.windows)
    (hwf : t.shadow.wf) {a : Addr} (ha : (s.findWindow a).isSome = true)
    (hmem : ∀ x ∈ t.shadow, x.1 = hiKey a ∨ x.1 = loKey a ∨ x ∈ s.shadow) : ShadowOk t := by
  refine ⟨hwf, fun x hx => ?_⟩
  rw [hwindows]
  obtain ⟨w, hw, hcovers⟩ := findWindow_covers ha
  obtain hhi | hlo | hold := hmem x hx
  · exact ⟨w, hw, hhi ▸ (Window.holds_keys hcovers).1⟩
  · exact ⟨w, hw, hlo ▸ (Window.holds_keys hcovers).2⟩
  · exact h.2 x hold

theorem ShadowOk.shadowWrite {s : State} (h : ShadowOk s) (w : BusWrite) (ans : WriteAnswer) :
    ShadowOk (shadowWrite w ans s) := by
  unfold Machine.shadowWrite
  split
  next ha => exact h.word rfl (wf_shadowHostWrite h.1 w ans) ha fun x hx => mem_shadowHostWrite hx
  next => exact h

theorem ShadowOk.shadowOwn {s : State} (h : ShadowOk s) (a : Addr) (hi lo : Option Byte) :
    ShadowOk (s.shadowOwn a hi lo) := by
  unfold State.shadowOwn
  split
  next ha => exact h.word rfl (Memory.wf_putWord h.1 a hi lo) ha fun x hx => Memory.mem_putWord hx
  next => exact h

theorem Memory.mem_eraseWords {m : Memory} {base : Addr} {n : Nat} {x : Host.Cell} :
    x ∈ m.eraseWords base n ↔ x ∈ m ∧ ¬ (2 * base.toNat ≤ x.1 ∧ x.1 < 2 * (base.toNat + n)) := by
  rw [Memory.eraseWords, List.mem_filter, Bool.not_eq_true', Bool.and_eq_false_iff, decide_eq_false_iff_not,
    decide_eq_false_iff_not, not_and_or]

theorem Memory.mem_eraseWindows {m : Memory} {ws : List Window} {x : Host.Cell} :
    x ∈ m.eraseWindows ws ↔ x ∈ m ∧ ∀ w ∈ ws, ¬ w.holds x.1 := by
  unfold Memory.eraseWindows
  induction ws generalizing m with
  | nil => simp
  | cons w ws ih =>
    rw [List.foldl_cons, ih, Memory.mem_eraseWords, List.forall_mem_cons, and_assoc]
    rfl

/-- Bytes that no window of a channel holds lie in another window (R123). -/
theorem ShadowOk.other {s : State} (h : ShadowOk s) {ch : ChannelId} {x : Host.Cell} (hx : x ∈ s.shadow)
    (hgone : ∀ w ∈ s.channelWindows ch, ¬ w.holds x.1) : ∃ w ∈ s.otherWindows ch, w.holds x.1 := by
  obtain ⟨w, hw, hholds⟩ := h.2 x hx
  refine ⟨w, List.mem_filter.mpr ⟨hw, decide_eq_true fun hrole => ?_⟩, hholds⟩
  exact hgone w (List.mem_filter.mpr ⟨hw, decide_eq_true hrole⟩) hholds

theorem ShadowOk.bind {s : State} (h : ShadowOk s) (x : ChannelRecord) : ShadowOk (bindWindows x s) := by
  refine ⟨Memory.wf_eraseWindows (Memory.wf_eraseWindows h.1 _) _, fun b hb => ?_⟩
  obtain ⟨hb, _⟩ := Memory.mem_eraseWindows.mp hb
  obtain ⟨hb, hgone⟩ := Memory.mem_eraseWindows.mp hb
  obtain ⟨w, hw, hholds⟩ := h.other hb hgone
  exact ⟨w, List.mem_append_left _ hw, hholds⟩

theorem ShadowOk.unbind {s : State} (h : ShadowOk s) (ch : ChannelId) : ShadowOk (unbindWindows ch s) := by
  refine ⟨Memory.wf_eraseWindows h.1 _, fun b hb => ?_⟩
  obtain ⟨hb, hgone⟩ := Memory.mem_eraseWindows.mp hb
  exact h.other hb hgone

end Sys2Proof.Machine
end

section
/-! SUPPORT. What every operation keeps of the memory path: the window table, the shadow, the bounds of the
own-cycle queue and of the passed-over count, the sizes of the device tables. -/

namespace Sys2Proof.Machine

/-- The operation keeps each of the memory path's invariants. -/
structure PathSound (s t : State) : Prop where
  windows : WindowsInv s → WindowsInv t
  shadow : ShadowOk s → ShadowOk t
  ownQueue : OwnQueueOk s → OwnQueueOk t
  tables : TablesOk s → TablesOk t
  passedOver : s.passedOver ≤ 32 → t.passedOver ≤ 32

theorem PathSound.refl (s : State) : PathSound s s := ⟨id, id, id, id, id⟩

theorem PathSound.trans {s t u : State} (h : PathSound s t) (k : PathSound t u) : PathSound s u :=
  ⟨k.windows ∘ h.windows, k.shadow ∘ h.shadow, k.ownQueue ∘ h.ownQueue, k.tables ∘ h.tables,
    k.passedOver ∘ h.passedOver⟩

theorem PathSound.of_taking {s t : State} (h : PathKept s t) (k : TakingKept s t) : PathSound s t :=
  ⟨fun hs => hs.congr h.windows fun i => (k.channels i).offline, fun hs => hs.congr h.windows h.shadow,
    k.ownQueue, k.tables, fun hs => h.passedOver.trans_le hs⟩

theorem PathSound.of_print {s t : State} (h : PrintKept s t) (k : SettingsKept s t) : PathSound s t :=
  .of_taking h.toPathKept (k.taking h.setup)

/-- A change of the fields that none of the invariants speaks of. -/
theorem PathSound.of_eq {s t : State} (hwindows : t.windows = s.windows) (hshadow : t.shadow = s.shadow)
    (hqueue : t.ownQueue = s.ownQueue) (hchans : t.chans = s.chans) (htables : TablesOk s → TablesOk t)
    (hpassed : t.passedOver = s.passedOver) : PathSound s t :=
  ⟨fun hs => hs.congr hwindows fun i => by rw [State.ch_congr hchans],
    fun hs => hs.congr hwindows hshadow, fun hs => by rw [OwnQueueOk, hqueue]; exact hs, htables,
    fun hs => hpassed.trans_le hs⟩

/-! ### Setup records -/

theorem setResult_sound (code : ResultCode) (s : State) : PathSound s (setResult code s) :=
  .of_eq rfl rfl rfl rfl id rfl

theorem applyChannel_sound (r : ApplyRec) (s : State) : PathSound s (applyChannel r s) := by
  unfold applyChannel
  split
  · exact setResult_sound ..
  next x hx =>
    split
    · exact setResult_sound ..
    · split
      · exact setResult_sound ..
      next hclash =>
        exact ⟨fun hs => hs.bind hx (by simpa using hclash),
          fun hs => (hs.bind x).congr rfl rfl, id, id, id⟩

theorem applyLayout_sound (r : ApplyRec) (s : State) : PathSound s (applyLayout r s) := by
  unfold applyLayout
  split
  · exact setResult_sound ..
  next ch l _ =>
    split
    · exact setResult_sound ..
    · have hrelease : PathSound s (if layoutReleases ch l s then releaseSheet ch s else s) := by
        split
        · exact .of_print (releaseSheet_kept ..) (releaseSheet_settings ..)
        · exact .refl s
      dsimp only
      refine PathSound.trans ?_ (setResult_sound ..)
      refine PathSound.trans ?_ (.of_print (settleFrom_kept ..) (settleFrom_settings ..))
      refine PathSound.trans ?_ (.of_print (dropRunOut_kept ..) (dropRunOut_settings ..))
      refine hrelease.trans ⟨fun hs => hs.congr rfl fun i => ?_, fun hs => hs.congr rfl rfl, id, id, id⟩
      by_cases hi : i = ch
      · subst hi
        rw [State.ch_modCh_same]
      · rw [State.ch_modCh_other _ _ hi]

theorem length_replaceRun {α : Type} {table new : List α} {start : Nat}
    (h : start + new.length ≤ table.length) : (replaceRun table start new).length = table.length := by
  simp only [replaceRun, List.length_append, List.length_take, List.length_drop]
  omega

theorem length_of_allSome {α : Type} {l : List (Option α)} {new : List α} (h : allSome l = some new) :
    new.length = l.length := by
  induction l generalizing new with
  | nil => cases h; rfl
  | cons a l ih =>
    cases a with
    | none => cases h
    | some a =>
      obtain ⟨rest, hrest, rfl⟩ := Option.map_eq_some_iff.mp h
      rw [List.length_cons, List.length_cons, ih hrest]

theorem length_sixteen (r : ApplyRec) : r.sixteen.length = 16 := by simp [ApplyRec.sixteen]

theorem applyXlate_sound (r : ApplyRec) (s : State) : PathSound s (applyXlate r s) := by
  unfold applyXlate
  split
  · exact setResult_sound ..
  next new hnew =>
    split
    next hstart =>
      refine .of_eq rfl rfl rfl rfl (fun ⟨htranslation, hcodes, hanswers⟩ => ⟨?_, hcodes, hanswers⟩) rfl
      have hlength : new.length = 16 := by
        rw [length_of_allSome hnew, List.length_map, length_sixteen]
      exact (length_replaceRun (by omega)).trans htranslation
    next => exact setResult_sound ..

theorem applyGlyph_sound (r : ApplyRec) (s : State) : PathSound s (applyGlyph r s) := by
  unfold applyGlyph
  split
  next hstart =>
    refine .of_eq rfl rfl rfl rfl (fun ⟨htranslation, hcodes, hanswers⟩ => ⟨htranslation, ?_, hanswers⟩) rfl
    exact (length_replaceRun (by rw [length_sixteen]; omega)).trans hcodes
  next => exact setResult_sound ..

theorem applyLink_sound (r : ApplyRec) (s : State) : PathSound s (applyLink r s) := by
  unfold applyLink
  split
  · exact .of_eq rfl rfl rfl rfl id rfl
  · exact setResult_sound ..

theorem length_answersOf {target : Nat} {s : State} {ws : List Word} (h : answersOf target s = some ws) :
    ws.length = 8 := by
  unfold answersOf at h
  split at h
  · cases h; rfl
  · split at h
    · cases h; rfl
    · cases h

theorem applyQuery_sound (r : ApplyRec) (s : State) : PathSound s (applyQuery r s) := by
  unfold applyQuery
  split
  · exact setResult_sound ..
  next ws hws =>
    exact .of_eq rfl rfl rfl rfl
      (fun ⟨htranslation, hcodes, _⟩ => ⟨htranslation, hcodes, length_answersOf hws⟩) rfl

/-- The channel's part and the path unit's part of a DISABLE together (R23, R123, R149). -/
theorem disable_sound (ch : ChannelId) (s : State) :
    PathSound s (unbindWindows ch (s.modCh ch Channel.disabled)) :=
  ⟨fun hs => hs.unbind, fun hs => ShadowOk.unbind (s := s.modCh ch Channel.disabled) hs ch, id, id, id⟩

theorem applyDisable_sound (r : ApplyRec) (s : State) : PathSound s (applyDisable r s) := by
  unfold applyDisable
  split
  · exact setResult_sound ..
  · split
    · exact setResult_sound ..
    · exact setResult_sound ..
    · split
      · exact setResult_sound ..
      · dsimp only
        refine PathSound.trans ?_ (setResult_sound ..)
        refine PathSound.trans ?_ (.of_print (settleFrom_kept ..) (settleFrom_settings ..))
        refine PathSound.trans ?_ (disable_sound ..)
        exact .of_print ((disposeForms_kept ..).trans (dropRunOut_kept ..))
          ((disposeForms_settings ..).trans (dropRunOut_settings ..))

theorem applyRecord_sound (r : ApplyRec) (s : State) : PathSound s (applyRecord r s) := by
  unfold applyRecord
  split
  · exact setResult_sound ..
  · split
    · exact setResult_sound ..
    · split
      · exact applyChannel_sound ..
      · exact applyLayout_sound ..
      · exact applyXlate_sound ..
      · exact applyGlyph_sound ..
      · exact applyLink_sound ..
      · exact applyDisable_sound ..
      · exact applyQuery_sound ..

theorem goOnApply_sound (r : ApplyRec) (s : State) : PathSound s (goOnApply r s) := by
  unfold goOnApply
  split
  · exact PathSound.trans (.of_eq (t := { s with setup := { s.setup with apply := none } })
      rfl rfl rfl rfl id rfl) (applyRecord_sound ..)
  · exact PathSound.trans (.of_eq
      (t := { s with setup := { s.setup with apply := some r, result := .pending } })
      rfl rfl rfl rfl id rfl) (.of_taking (askPlaces_kept ..) (askPlaces_taking ..))

theorem startApply_sound (s : State) : PathSound s (startApply s) := by
  unfold startApply
  split
  · exact .refl s
  · dsimp only
    split <;> exact goOnApply_sound ..

theorem deliverRecord_sound (i : Nat) (hi lo : Option Byte) (s : State) :
    PathSound s (deliverRecord i hi lo s) := by
  unfold deliverRecord
  split
  · exact .refl s
  · dsimp only
    split <;> exact goOnApply_sound ..

/-! ### Host cycles and own cycles -/

theorem setupWrite_sound (k : Nat) (s : State) : PathSound s (setupWrite k s) := by
  have hends : PathSound s { s with setup := { s.setup with answersPresent := false } } :=
    .of_eq rfl rfl rfl rfl id rfl
  unfold setupWrite
  dsimp only
  split
  · exact hends.trans (startApply_sound _)
  · exact hends

theorem removeTally_sound (ch : ChannelId) (s : State) : PathSound s (removeTally ch s) := by
  refine ⟨fun hs => hs.congr rfl fun i => by rw [removeTally_ch], fun hs => hs.congr rfl rfl,
    fun hs => ⟨?_, fun i hi => ?_⟩, id, fun hs => ?_⟩
  · exact (List.filter_sublist.countP_le).trans hs.1
  · exact (List.filter_sublist.countP_le).trans (hs.2 i hi)
  · unfold removeTally
    dsimp only
    split
    · exact Nat.zero_le _
    · exact hs

theorem updateTally_sound (ch : ChannelId) (s : State) : PathSound s (updateTally ch s) := by
  refine ⟨fun hs => hs.congr rfl fun i => by rw [updateTally_ch], fun hs => hs.congr rfl rfl,
    fun hs => ⟨(Nat.le_of_eq ?_).trans hs.1, fun i hi => (Nat.le_of_eq ?_).trans (hs.2 i hi)⟩, id, id⟩
  all_goals
    rw [updateTally, List.countP_map]
    refine List.countP_congr fun e _ => ?_
    cases e with
    | fetch req w => rfl
    | tally c a v => by_cases hc : c = ch <;> simp [hc, OwnEntry.isFetch, OwnEntry.isTallyOf]

theorem presetTally_sound (ch : ChannelId) (w : BusWrite) (s : State) :
    PathSound s (presetTally ch w s) := by
  have hpreset : PathSound s (s.modCh ch fun c => { c with tally := mergeBytes w c.tally }) :=
    .of_print (modCh_kept ..) (modCh_registers ⟨rfl, rfl, rfl⟩)
  unfold presetTally
  dsimp only
  split
  · exact hpreset.trans (removeTally_sound ..)
  · split
    · exact hpreset.trans (updateTally_sound ..)
    · exact hpreset

theorem reportWrite_sound (w : BusWrite) (s : State) : PathSound s (reportWrite w s) := by
  unfold reportWrite
  split
  · exact .of_taking (commandWrite_kept ..) (commandWrite_taking ..)
  · exact presetTally_sound ..
  · exact setupWrite_sound ..
  · exact .refl s

theorem shadowWrite_sound (w : BusWrite) (ans : WriteAnswer) (s : State) :
    PathSound s (shadowWrite w ans s) := by
  refine ⟨fun hs => hs.congr ?_ fun i => ?_, fun hs => hs.shadowWrite w ans, fun hs => ?_, fun hs => ?_,
    fun hs => ?_⟩
  · unfold shadowWrite; split <;> rfl
  · unfold shadowWrite; split <;> simp
  all_goals unfold shadowWrite; split <;> exact hs

theorem writeTaken_sound (w : BusWrite) (ans : WriteAnswer) (s : State) :
    PathSound s (writeTaken w ans s) :=
  (shadowWrite_sound w ans s).trans (reportWrite_sound ..)

theorem reportRead_sound (a : Addr) (ans : ReadAnswer) (s : State) : PathSound s (reportRead a ans s) := by
  unfold reportRead
  split
  · split
    · exact .of_print (modCh_kept ..) (modCh_registers ⟨rfl, rfl, rfl⟩)
    · exact .refl s
  · exact .refl s

/-- A host cycle is passed over the head own cycle 32 times at most (R133). -/
theorem given_sound {c : BusCycle} {s : State} (h : s.guardHold = false) (reply : HostReply) :
    PathSound s { giveMemory c s with hostReply := some reply } := by
  refine ⟨fun hs => hs.congr rfl fun i => ?_, fun hs => hs.congr rfl rfl, id, id, fun hs => ?_⟩
  · exact Iff.rfl
  · change (if s.ownQueue.isEmpty then s.passedOver else s.passedOver + 1) ≤ 32
    split
    · exact hs
    next hqueue =>
      have hbelow : ¬ Config.guardLimit ≤ s.passedOver := by simpa [State.guardHold, hqueue] using h
      change ¬ 32 ≤ s.passedOver at hbelow
      omega

theorem passCycle_sound {c : BusCycle} {s : State} (h : s.guardHold = false) (ans : CycleAnswer) :
    PathSound s (passCycle c ans s) := by
  cases c with
  | read a => exact (given_sound h _).trans (reportRead_sound ..)
  | write w => exact (given_sound h _).trans (writeTaken_sound ..)
  | locked w => exact ((given_sound h _).trans (reportRead_sound ..)).trans (writeTaken_sound ..)

/-- The head leaves the queue, and a FETCH's place may be granted again (R129, R130, R132). -/
theorem startOwnCycle_sound (s : State) : PathSound s (startOwnCycle s) := by
  unfold startOwnCycle
  split
  next e rest _ hqueue =>
    split
    · exact .refl s
    · have hgrant := grantPlace_fetches_le
        { s with ownQueue := rest, ownCycle := some e, passedOver := 0, memDrive := some e.cycle }
      have htallies := grantPlace_tallies
        { s with ownQueue := rest, ownCycle := some e, passedOver := 0, memDrive := some e.cycle }
      have hkept := grantPlace_kept
        { s with ownQueue := rest, ownCycle := some e, passedOver := 0, memDrive := some e.cycle }
      dsimp only at hgrant htallies ⊢
      refine ⟨fun hs => ?_, fun hs => ?_, fun hs => ?_, fun hs => ?_, fun _ => ?_⟩
      · split
        · exact hs.congr hkept.windows fun i =>
            ((ChannelsKept.trans (.of_chans rfl) (grantPlace_channels _)) i).offline
        · exact hs.congr rfl fun i => by rfl
      · split
        · exact hs.congr hkept.windows hkept.shadow
        · exact hs.congr rfl rfl
      · rw [OwnQueueOk, hqueue] at hs
        simp only [List.countP_cons] at hs
        split
        next hfetch =>
          rw [hfetch] at hs
          refine ⟨hgrant.trans hs.1, fun i hi => ?_⟩
          rw [htallies i]
          exact (Nat.le_add_right ..).trans (hs.2 i hi)
        next => exact ⟨(Nat.le_add_right ..).trans hs.1, fun i hi => (Nat.le_add_right ..).trans (hs.2 i hi)⟩
      · split
        · exact grantPlace_tables hs
        · exact hs
      · split
        · rw [hkept.passedOver]; exact Nat.zero_le _
        · exact Nat.zero_le _
  next => exact .refl s

theorem grantPlace_sound {s : State} (h : 0 < s.freeFetchPlaces) : PathSound s (grantPlace s) :=
  .of_taking (grantPlace_kept s)
    ⟨grantPlace_channels s, fun hs => hs.grantPlaces (n := 1) h, grantPlace_tables⟩

theorem grantFree_sound (s : State) : PathSound s (grantFree s) := by
  unfold grantFree
  split
  next h => exact grantPlace_sound h
  next => exact .refl s

theorem deliver_sound (req : Requester) (d : Dest) (hi lo : Option Byte) (s : State) :
    PathSound s (deliver req d hi lo s) := by
  unfold deliver
  split
  · split
    · split
      · exact .of_taking (deliverLine_kept ..) (deliverLine_taking ..)
      · exact .of_taking (deliverTape_kept ..) (deliverTape_taking ..)
      · exact .refl s
    · exact .refl s
  · split
    · exact deliverRecord_sound ..
    · exact .refl s
  · exact .refl s

theorem shadowOwn_sound (s : State) (a : Addr) (hi lo : Option Byte) :
    PathSound s ({ s with ownCycle := none }.shadowOwn a hi lo) := by
  refine ⟨fun hs => hs.congr ?_ fun i => ?_,
    fun hs => ShadowOk.shadowOwn (s := { s with ownCycle := none }) hs a hi lo, fun hs => ?_, fun hs => ?_,
    fun hs => ?_⟩
  · unfold State.shadowOwn; split <;> rfl
  · unfold State.shadowOwn; split <;> exact Iff.rfl
  all_goals unfold State.shadowOwn; split <;> exact hs

theorem endFetch_sound (ans : ReadAnswer) (s : State) : PathSound s (endFetch ans s) := by
  unfold endFetch
  split
  · exact (shadowOwn_sound ..).trans (deliver_sound ..)
  · exact .refl s

theorem endTallyWrite_sound (ans : WriteAnswer) (s : State) : PathSound s (endTallyWrite ans s) := by
  unfold endTallyWrite
  split
  · dsimp only
    split <;> exact shadowOwn_sound ..
  · exact .refl s

/-! ### Reset -/

theorem Channel.hostReset_offline (c : Channel) : c.hostReset.state = .offline ↔ c.state = .offline := by
  unfold Channel.hostReset
  dsimp only
  split <;> simp_all

theorem resetChannel_sound (ch : ChannelId) (s : State) : PathSound s (resetChannel ch s) := by
  have hmod : PathSound s (s.modCh ch Channel.hostReset) :=
    .of_print (modCh_kept ..) (.modCh ⟨Channel.hostReset_offline _, rfl, rfl⟩)
  exact hmod.trans (.of_eq rfl rfl rfl rfl id rfl)

theorem resetInTurn_sound (s : State) (ch : ChannelId) : PathSound s (resetInTurn s ch) := by
  unfold resetInTurn
  split
  · exact (resetChannel_sound ..).trans (.of_print (afterFreeing_kept _) (afterFreeing_settings _))
  · exact resetChannel_sound ..

theorem PathSound.foldl {α : Type} {f : State → α → State} (h : ∀ s a, PathSound s (f s a)) (l : List α)
    (s : State) : PathSound s (l.foldl f s) := by
  induction l generalizing s with
  | nil => exact .refl s
  | cons a l ih => exact (h s a).trans (ih _)

theorem resetPath_sound (s : State) : PathSound s (resetPath s) := by
  refine ⟨fun hs => hs.congr rfl fun i => Iff.rfl, fun hs => hs.congr rfl rfl,
    fun hs => ⟨?_, fun i hi => ?_⟩, id, fun _ => Nat.zero_le _⟩
  · exact (List.filter_sublist.countP_le).trans hs.1
  · exact (List.filter_sublist.countP_le).trans (hs.2 i hi)

theorem relistSetup_sound (removed : List FetchWord) (s : State) : PathSound s (relistSetup removed s) := by
  unfold relistSetup
  split
  · exact .refl s
  · exact .of_eq rfl rfl rfl rfl id rfl

theorem grantPlaces_sound {n : Nat} {s : State} (h : n ≤ s.freeFetchPlaces) : PathSound s (grantPlaces n s) :=
  .of_taking (grantPlaces_kept n s)
    ⟨grantPlaces_channels n s, fun hs => hs.grantPlaces h, grantPlaces_tables n⟩

theorem regrant_sound (s : State) : PathSound s (regrant s) := by
  unfold regrant
  split
  · exact .of_taking (askPlaces_kept ..) (askPlaces_taking ..)
  · split
    · exact grantPlaces_sound (Nat.le_refl _)
    · exact PathSound.trans (.of_eq (t := { s with placeWait := s.placeWait ++ [.setup] })
        rfl rfl rfl rfl id rfl) (grantPlaces_sound (Nat.le_refl _))

theorem hostReset_sound (order : List ChannelId) (s : State) : PathSound s (hostReset order s) := by
  refine PathSound.trans ?_ (regrant_sound _)
  refine PathSound.trans ?_ (PathSound.foldl (fun s ch => resetChannel_sound ch s) _ _)
  refine PathSound.trans ?_ (PathSound.foldl resetInTurn_sound _ _)
  exact (resetPath_sound s).trans (relistSetup_sound ..)

theorem setupBase_toNat (straps : BitVec 4) :
    (setupBase straps).toNat = 65536 * (straps.toNat + 1) - 32 := by
  have hstraps := straps.isLt
  rw [setupBase, BitVec.toNat_ofNat]
  omega

/-- The part after power-on meets the memory path's invariants, whatever was before (R2, R122). -/
theorem powerOnWith_sound (straps : BitVec 4) (s : State) : PathSound s (powerOnWith straps s) := by
  have hch : ∀ i, (powerOnWith straps s).ch i = Channel.powerOn := fun i => by cases i <;> rfl
  refine ⟨fun _ => ⟨⟨by simp [powerOnWith], rfl, List.pairwise_singleton .., ?_⟩, fun i _ => ?_⟩,
    fun _ => ⟨Memory.wf_nil, nofun⟩, fun _ => ⟨Nat.zero_le _, fun _ _ => Nat.zero_le _⟩,
    fun _ => ⟨List.length_replicate, ?_, List.length_replicate⟩, fun _ => Nat.zero_le _⟩
  · intro w hw
    obtain rfl := List.mem_singleton.mp hw
    have hstraps := straps.isLt
    simp only [setupBase_toNat, Role.length]
    omega
  · rw [hch, if_pos (show Channel.powerOn.state = .offline from rfl)]
    rfl
  · change ((List.range 64).map (BitVec.ofNat 16)).length = 64
    rw [List.length_map, List.length_range]

/-- Every operation keeps the memory path's invariants. -/
theorem Effect.pathSound {s t : State} (h : Effect s t) : PathSound s t := by
  cases h with
  | nothing => exact .refl s
  | poweredOn straps => exact powerOnWith_sound straps s
  | busReset order => exact hostReset_sound order s
  | held => exact .of_eq rfl rfl rfl rfl id rfl
  | passed c ans hpass =>
    have hguard : s.guardHold = false := by
      simp only [State.canPass, Bool.and_eq_true, Bool.not_eq_true'] at hpass
      exact hpass.1.2
    exact PathSound.trans (.of_eq (t := { s with presented := none }) rfl rfl rfl rfl id rfl)
      (passCycle_sound (s := { s with presented := none }) hguard ans)
  | retried => exact .of_print (afterFreeing_kept s) (afterFreeing_settings s)
  | claimed x => exact .of_print (claimAlone_kept x s) (claimAlone_settings x s)
  | ticked ch => exact .of_taking (channelTick_kept ch s) (channelTick_taking ch s)
  | linkTicked => exact .of_print (tickLink_kept s) (tickLink_settings s)
  | panelSet => exact .of_eq rfl rfl rfl rfl id rfl
  | stopped p ch =>
    exact PathSound.trans (.of_eq (t := { s with panel := p }) rfl rfl rfl rfl id rfl)
      (.of_print (modCh_kept ..) (stopChannel_settings ..))
  | started p ch =>
    have hstart : PathSound { s with panel := p } (startChannel ch { s with panel := p }) :=
      .of_print (modCh_kept ..) (startChannel_settings ..)
    have hpanel : PathSound s { s with panel := p } := .of_eq rfl rfl rfl rfl id rfl
    exact (hpanel.trans hstart).trans (.of_print (startLink_kept _) (startLink_settings _))
  | ejected p ch =>
    exact PathSound.trans (.of_eq (t := { s with panel := p }) rfl rfl rfl rfl id rfl)
      (.of_print (ejectChannel_kept ..) (ejectChannel_settings ..))
  | received bytes => exact .of_print (receive_kept bytes s) (receive_settings bytes s)
  | rowSent => exact .of_print (sendRow_kept s) (sendRow_settings s)
  | endSent => exact .of_print (sendEnd_kept s) (sendEnd_settings s)
  | ownStarted => exact startOwnCycle_sound s
  | granted => exact grantFree_sound s
  | fetched ans => exact endFetch_sound ans s
  | tallied ans => exact endTallyWrite_sound ans s

end Sys2Proof.Machine

namespace Sys2Proof

open Sys2Proof.Machine

/-- Settles O36: only power-on, a CHANNEL record and a DISABLE record change the table, and each keeps it in
step with the channels. -/
theorem windowsKept : Obligations.WindowsKept := by
  unfold Obligations.WindowsKept
  intro s t hs hstep
  exact step_keeps (P := WindowsInv) (fun s q h => h.congr rfl fun i => by rw [State.ch_with_pending])
    (fun s t h => h.pathSound.windows) hs hstep

/-- Settles O37: the shadow takes bytes of window words only, and loses those of windows that go. -/
theorem shadowKept : Obligations.ShadowKept := by
  unfold Obligations.ShadowKept
  intro s t hs hstep
  exact step_keeps (P := ShadowOk) (fun s q h => h.congr rfl rfl) (fun s t h => h.pathSound.shadow) hs hstep

/-- Settles O38: places are granted up to twelve, a channel's TALLY-WRITE is replaced in place, a cycle passes
over the head own cycle below the guard's limit, and a table takes a run within it. -/
theorem boundsKept : Obligations.BoundsKept := by
  unfold Obligations.BoundsKept
  intro s t hs hstep
  refine step_keeps (P := fun s => OwnQueueOk s ∧ s.passedOver ≤ 32 ∧ TablesOk s) (fun s q h => h)
    (fun s t h => ?_) hs hstep
  rintro ⟨hqueue, hpassed, htables⟩
  exact ⟨h.pathSound.ownQueue hqueue, h.pathSound.passedOver hpassed, h.pathSound.tables htables⟩

end Sys2Proof
end

section
/-! SUPPORT. Soundness of the printing operations: channels in shape, cells accounted for, the queue grown at its
tail, the wait lists in step. An operation in hand, between two of its stages, is left out of the account
(R12, R61 to R63, R68, R97, R100). -/

namespace Sys2Proof.Machine

/-! ### Channels in shape -/

/-- A channel in shape, its operation apart (R2, R41, R72). -/
structure ChannelShape (c : Channel) : Prop where
  offline : c.state = .offline → c.paper = none ∧ c.pendSheet = none ∧ c.runOutDue = false
  pending : c.pendSheet.isSome = true → c.layout.geo.twoUp = true ∧ c.paper.isSome = true
  paper : ∀ p ∈ c.paper, PaperOk p
  sheet : ∀ f ∈ c.pendSheet, FormOk f ∧ FormUnplaced f

/-- The operation in flight, if any, fits its stage (R12). -/
def OpFits (c : Channel) : Prop := ∀ op ∈ c.state.op?, OpOk c op

theorem channelOk_iff (c : Channel) : ChannelOk c ↔ ChannelShape c ∧ OpFits c :=
  ⟨fun ⟨h1, h2, h3, h4, h5⟩ => ⟨⟨h1, h2, h3, h4⟩, h5⟩, fun ⟨⟨h1, h2, h3, h4⟩, h5⟩ => ⟨h1, h2, h3, h4, h5⟩⟩

/-- Every channel is in shape and its operation fits, but for an operation in hand. -/
def SoundBut (b : Option ChannelId) (s : State) : Prop :=
  ∀ i, ChannelShape (s.ch i) ∧ (b ≠ some i → OpFits (s.ch i))

theorem mem_allChannels (i : ChannelId) : i ∈ allChannels := by cases i <;> decide

theorem soundBut_none_iff (s : State) : SoundBut none s ↔ ChannelsOk s := by
  refine ⟨fun h i _ => (channelOk_iff _).mpr ⟨(h i).1, (h i).2 nofun⟩, fun h i => ?_⟩
  obtain ⟨hshape, hop⟩ := (channelOk_iff _).mp (h i (mem_allChannels i))
  exact ⟨hshape, fun _ => hop⟩

theorem SoundBut.opFits {s : State} (h : SoundBut none s) (i : ChannelId) : OpFits (s.ch i) :=
  (h i).2 nofun

theorem SoundBut.opOk {s : State} (h : SoundBut none s) {i : ChannelId} {op : Op}
    (hbusy : (s.ch i).state = .busy op) : OpOk (s.ch i) op :=
  h.opFits i op (by rw [hbusy]; rfl)

theorem SoundBut.weaken {s : State} (h : SoundBut none s) (b : Option ChannelId) : SoundBut b s :=
  fun i => ⟨(h i).1, fun _ => h.opFits i⟩

theorem opFits_of_op?_eq_none {c : Channel} (h : c.state.op? = none) : OpFits c := by
  intro op hop
  rw [h] at hop
  cases hop

theorem opFits_of_busy {c : Channel} {op : Op} (h : c.state = .busy op) (hop : OpOk c op) : OpFits c := by
  intro o ho
  rw [h] at ho
  cases ho
  exact hop

/-! ### Cells (R61) -/

/-- The cells of a channel's open form and pending sheet. -/
def Channel.ownCells (c : Channel) : Nat := c.openCells + formCells c.pendSheet

/-- Free and held cells together. -/
def cellsInAll (s : State) : Nat := s.freeCells + heldCells s

theorem heldCells_eq (s : State) :
    heldCells s = (s.ch .c0).ownCells + (s.ch .c1).ownCells + (s.ch .c2).ownCells + (s.ch .c3).ownCells +
      (s.queue.map Sheet.cellCount).sum := by
  simp only [heldCells, allChannels, Channel.ownCells, List.map_cons, List.map_nil, List.sum_cons, List.sum_nil]
  omega

theorem cellsInAll_congr {s t : State} (hfree : t.freeCells = s.freeCells) (hchans : t.chans = s.chans)
    (hqueue : t.queue = s.queue) : cellsInAll t = cellsInAll s := by
  simp only [cellsInAll, heldCells_eq, hfree, hqueue, State.ch_congr hchans]

/-- A change of one channel moves the account by its own cells. -/
theorem cellsInAll_modCh (s : State) (ch : ChannelId) (f : Channel → Channel) :
    cellsInAll (s.modCh ch f) + (s.ch ch).ownCells = cellsInAll s + (f (s.ch ch)).ownCells := by
  simp only [cellsInAll, heldCells_eq, State.modCh_freeCells, State.modCh_queue]
  cases ch <;> simp only [State.ch, State.modCh, State.setCh, Channels.set] <;> omega

/-! ### The wait lists (R68, R100) -/

/-- Each wait list holds, once each, what waits, but for an operation in hand. -/
structure WaitsBut (b : Option ChannelId) (s : State) : Prop where
  cellNodup : s.cellWait.Nodup
  roomNodup : s.roomWait.Nodup
  lines : ∀ i, i ∈ s.cellWait ↔ b ≠ some i ∧ (s.waitingStrikes i).isSome = true
  moves : ∀ i, .move i ∈ s.roomWait ↔ b ≠ some i ∧ (s.ch i).inMoving
  runOuts : ∀ i, .runOut i ∈ s.roomWait ↔ (s.ch i).runOutDue = true

theorem waitsBut_none_iff (s : State) : WaitsBut none s ↔ CellWaitOk s ∧ RoomWaitOk s := by
  constructor
  · rintro ⟨hcell, hroom, hlines, hmoves, hrunOuts⟩
    exact ⟨⟨hcell, fun i _ => by simpa using hlines i⟩, hroom, fun i _ => by simpa using hmoves i,
      fun i _ => hrunOuts i⟩
  · rintro ⟨⟨hcell, hlines⟩, hroom, hmoves, hrunOuts⟩
    exact ⟨hcell, hroom, fun i => by simpa using hlines i (mem_allChannels i),
      fun i => by simpa using hmoves i (mem_allChannels i), fun i => hrunOuts i (mem_allChannels i)⟩

/-- Whether a channel's line waits for cells depends on its state alone. -/
def ChState.isPlacing : ChState → Bool
  | .busy op =>
    match op.stage with
    | .placing _ => true
    | _ => false
  | _ => false

/-- Whether a channel's operation is in MOVING depends on its state alone. -/
def ChState.isMoving : ChState → Bool
  | .busy op =>
    match op.stage with
    | .moving _ => true
    | _ => false
  | _ => false

theorem waitingStrikes_isSome (s : State) (i : ChannelId) :
    (s.waitingStrikes i).isSome = (s.ch i).state.isPlacing := by
  unfold State.waitingStrikes ChState.isPlacing
  cases (s.ch i).state with
  | busy op => dsimp only; cases op.stage <;> rfl
  | _ => rfl

theorem inMoving_iff (c : Channel) : c.inMoving ↔ c.state.isMoving = true := by
  unfold Channel.inMoving ChState.isMoving
  cases c.state with
  | busy op =>
    dsimp only
    constructor
    · rintro ⟨o, ho, held, hstage⟩
      cases ho
      rw [hstage]
    · intro h
      cases hstage : op.stage with
      | moving held => exact ⟨op, rfl, held, hstage⟩
      | _ => rw [hstage] at h; cases h
  | _ => simp [ChState.op?]

/-- The wait lists in terms of the channels' states. -/
theorem waitsBut_iff (b : Option ChannelId) (s : State) :
    WaitsBut b s ↔ s.cellWait.Nodup ∧ s.roomWait.Nodup ∧
      (∀ i, i ∈ s.cellWait ↔ b ≠ some i ∧ (s.ch i).state.isPlacing = true) ∧
      (∀ i, .move i ∈ s.roomWait ↔ b ≠ some i ∧ (s.ch i).state.isMoving = true) ∧
      ∀ i, .runOut i ∈ s.roomWait ↔ (s.ch i).runOutDue = true := by
  constructor
  · rintro ⟨h1, h2, h3, h4, h5⟩
    exact ⟨h1, h2, fun i => by rw [h3, waitingStrikes_isSome], fun i => by rw [h4, inMoving_iff], h5⟩
  · rintro ⟨h1, h2, h3, h4, h5⟩
    exact ⟨h1, h2, fun i => by rw [h3, waitingStrikes_isSome], fun i => by rw [h4, inMoving_iff], h5⟩

/-- Lists and channels that show the same waits. -/
theorem WaitsBut.congr {b : Option ChannelId} {s t : State} (h : WaitsBut b s)
    (hcell : t.cellWait = s.cellWait) (hroom : t.roomWait = s.roomWait)
    (hch : ∀ i, (b ≠ some i → (t.ch i).state.isPlacing = (s.ch i).state.isPlacing ∧
      (t.ch i).state.isMoving = (s.ch i).state.isMoving) ∧ (t.ch i).runOutDue = (s.ch i).runOutDue) :
    WaitsBut b t := by
  rw [waitsBut_iff] at h ⊢
  obtain ⟨h1, h2, h3, h4, h5⟩ := h
  rw [hcell, hroom]
  refine ⟨h1, h2, fun i => (h3 i).trans (and_congr_right fun hb => ?_),
    fun i => (h4 i).trans (and_congr_right fun hb => ?_), fun i => by rw [h5, (hch i).2]⟩
  · rw [((hch i).1 hb).1]
  · rw [((hch i).1 hb).2]

/-! ### The sheet queue and the link (R90, R97 to R99, R106) -/

/-- A sheet as it enters: on its sheet, with no attempt made. -/
def SheetFresh (sh : Sheet) : Prop := SheetOk sh ∧ sh.attempts = 0

/-- Fresh sheets join the tail; a link idle on an empty queue begins to send the first of them. -/
structure QueueGrows (s t : State) (new : List Sheet) : Prop where
  queue : t.queue = s.queue ++ new
  fresh : ∀ sh ∈ new, SheetFresh sh
  link : (t.link = s.link ∧ (new = [] ∨ s.queue ≠ [] ∨ s.link.state ≠ .idleUp)) ∨
    (s.link.state = .idleUp ∧ s.queue = [] ∧ new ≠ [] ∧
      t.link = { s.link with state := .sending, rowsSent := 0 })

theorem QueueGrows.of_eq {s t : State} (hqueue : t.queue = s.queue) (hlink : t.link = s.link) :
    QueueGrows s t [] := ⟨by simp [hqueue], nofun, .inl ⟨hlink, .inl rfl⟩⟩

theorem QueueGrows.trans {s t u : State} {new more : List Sheet} (h : QueueGrows s t new)
    (k : QueueGrows t u more) : QueueGrows s u (new ++ more) := by
  refine ⟨by rw [k.queue, h.queue, List.append_assoc], fun sh hsh => ?_, ?_⟩
  · exact (List.mem_append.mp hsh).elim (h.fresh sh) (k.fresh sh)
  · have hqueue := h.queue
    obtain ⟨hlink, hidle⟩ | ⟨hstate, hempty, hnew, hlink⟩ := h.link
    · obtain ⟨klink, kidle⟩ | ⟨kstate, kempty, kmore, klink⟩ := k.link
      · refine .inl ⟨klink.trans hlink, ?_⟩
        rw [hlink] at kidle
        obtain hnew | hothers := hidle
        · subst hnew
          rw [List.append_nil] at hqueue
          rw [hqueue] at kidle
          exact kidle
        · exact .inr hothers
      · rw [kempty] at hqueue
        obtain ⟨hs, hn⟩ := List.append_eq_nil_iff.mp hqueue.symm
        exact .inr ⟨hlink ▸ kstate, hs, by simp [kmore], by rw [klink, hlink]⟩
    · obtain ⟨klink, _⟩ | ⟨kstate, kempty, _, _⟩ := k.link
      · exact .inr ⟨hstate, hempty, by simp [hnew], klink.trans hlink⟩
      · rw [hlink] at kstate
        cases kstate

/-! ### Soundness of one operation -/

/-- From a state sound but for `b` the operation comes to one sound but for `b'`. -/
structure Sound (b b' : Option ChannelId) (s t : State) : Prop where
  chans : SoundBut b' t
  cells : cellsInAll t = cellsInAll s
  grows : ∃ new, QueueGrows s t new
  length : t.queue.length ≤ max 8 s.queue.length
  waits : WaitsBut b s → WaitsBut b' t

theorem Sound.refl {b : Option ChannelId} {s : State} (h : SoundBut b s) : Sound b b s s :=
  ⟨h, rfl, ⟨[], .of_eq rfl rfl⟩, Nat.le_max_right .., id⟩

theorem Sound.trans {b c d : Option ChannelId} {s t u : State} (h : Sound b c s t) (k : Sound c d t u) :
    Sound b d s u := by
  obtain ⟨new, hgrows⟩ := h.grows
  obtain ⟨more, kgrows⟩ := k.grows
  have hlength := h.length
  have klength := k.length
  exact ⟨k.chans, k.cells.trans h.cells, ⟨new ++ more, hgrows.trans kgrows⟩, by omega,
    fun hs => k.waits (h.waits hs)⟩

/-- The fields that soundness speaks of are the same. -/
theorem Sound.of_eq {b : Option ChannelId} {s t : State} (h : SoundBut b s) (hchans : t.chans = s.chans)
    (hfree : t.freeCells = s.freeCells) (hqueue : t.queue = s.queue) (hlink : t.link = s.link)
    (hcell : t.cellWait = s.cellWait) (hroom : t.roomWait = s.roomWait) : Sound b b s t := by
  have hch := State.ch_congr hchans
  refine ⟨fun i => by rw [hch]; exact h i, cellsInAll_congr hfree hchans hqueue,
    ⟨[], .of_eq hqueue hlink⟩, by rw [hqueue]; exact Nat.le_max_right .., fun hs => ?_⟩
  exact hs.congr hcell hroom fun i => by rw [hch]; exact ⟨fun _ => ⟨rfl, rfl⟩, rfl⟩

/-- A channel changed in its papers and registers, its operation going on. -/
structure Reshaped (c d : Channel) : Prop where
  shape : ChannelShape d
  state : d.state = c.state
  due : d.runOutDue = c.runOutDue
  fits : OpFits c → OpFits d

/-- A channel with a change of registers that soundness does not speak of. -/
structure SameBody (c d : Channel) : Prop where
  state : d.state = c.state
  due : d.runOutDue = c.runOutDue
  paper : d.paper = c.paper
  sheet : d.pendSheet = c.pendSheet
  layout : d.layout = c.layout

/-- An operation asks of its channel no more than that a tape is loaded. -/
theorem OpOk.of_paper {c d : Channel} (h : c.paper.isSome = true → d.paper.isSome = true) {op : Op}
    (hop : OpOk c op) : OpOk d op := by
  unfold OpOk at hop ⊢
  split at hop
  · exact ⟨hop.1, h hop.2.1, hop.2.2⟩
  · exact hop
  · exact ⟨hop.1, h hop.2.1, hop.2.2⟩
  · exact hop.imp_right fun ⟨hkind, hheld, hpaper, hplaced⟩ => ⟨hkind, hheld, h hpaper, hplaced⟩

theorem OpFits.of_paper {c d : Channel} (hstate : d.state = c.state)
    (h : c.paper.isSome = true → d.paper.isSome = true) (hfits : OpFits c) : OpFits d := by
  intro op hop
  rw [hstate] at hop
  exact (hfits op hop).of_paper h

theorem SameBody.reshaped {c d : Channel} (h : SameBody c d) (hc : ChannelShape c) : Reshaped c d := by
  obtain ⟨hstate, hdue, hpaper, hsheet, hlayout⟩ := h
  obtain ⟨h1, h2, h3, h4⟩ := hc
  refine ⟨⟨?_, ?_, ?_, ?_⟩, hstate, hdue, fun hfits => hfits.of_paper hstate (by rw [hpaper]; exact id)⟩
  · rwa [hstate, hpaper, hsheet, hdue]
  · rwa [hpaper, hsheet, hlayout]
  · rwa [hpaper]
  · rwa [hsheet]

theorem SameBody.ownCells {c d : Channel} (h : SameBody c d) : d.ownCells = c.ownCells := by
  simp only [Channel.ownCells, Channel.openCells, h.paper, h.sheet]

theorem SoundBut.modCh {b : Option ChannelId} {s : State} (h : SoundBut b s) {ch : ChannelId}
    {f : Channel → Channel} (hf : Reshaped (s.ch ch) (f (s.ch ch))) : SoundBut b (s.modCh ch f) := by
  intro i
  by_cases hi : i = ch
  · subst hi
    rw [State.ch_modCh_same]
    exact ⟨hf.shape, fun hb => hf.fits ((h i).2 hb)⟩
  · rw [State.ch_modCh_other s f hi]
    exact h i

theorem WaitsBut.modCh {b : Option ChannelId} {s : State} (h : WaitsBut b s) {ch : ChannelId}
    {f : Channel → Channel} (hstate : b ≠ some ch → (f (s.ch ch)).state = (s.ch ch).state)
    (hdue : (f (s.ch ch)).runOutDue = (s.ch ch).runOutDue) : WaitsBut b (s.modCh ch f) := by
  refine h.congr rfl rfl fun i => ?_
  by_cases hi : i = ch
  · subst hi
    rw [State.ch_modCh_same]
    exact ⟨fun hb => by rw [hstate hb]; exact ⟨rfl, rfl⟩, hdue⟩
  · rw [State.ch_modCh_other s f hi]
    exact ⟨fun _ => ⟨rfl, rfl⟩, rfl⟩

theorem Sound.modCh {b : Option ChannelId} {s : State} (h : SoundBut b s) {ch : ChannelId}
    {f : Channel → Channel} (hf : Reshaped (s.ch ch) (f (s.ch ch)))
    (hcells : (f (s.ch ch)).ownCells = (s.ch ch).ownCells) : Sound b b s (s.modCh ch f) := by
  refine ⟨h.modCh hf, ?_, ⟨[], .of_eq rfl rfl⟩, Nat.le_max_right .., fun hs => hs.modCh (fun _ => hf.state) hf.due⟩
  have hmod := cellsInAll_modCh s ch f
  omega

/-- A change of registers that soundness does not speak of. -/
theorem Sound.registers {b : Option ChannelId} {s : State} (h : SoundBut b s) {ch : ChannelId}
    {f : Channel → Channel} (hf : SameBody (s.ch ch) (f (s.ch ch))) : Sound b b s (s.modCh ch f) :=
  .modCh h (hf.reshaped (h ch).1) hf.ownCells

/-! ### A sheet enters (R85, R90 to R92, R99, R106) -/

theorem placeForm_onSheet (g : Geometry) (slot1 : Bool) (f : Form) :
    ∀ l ∈ (placeForm g slot1 f).lines, ∀ c ∈ l.cells,
      ∃ x y, c.xy = some (x, y) ∧ x < g.width ∧ y < g.height := by
  intro l hl c hc
  rw [placeForm_lines] at hl
  obtain ⟨m, _, rfl⟩ := List.mem_map.mp (mem_of_mem_nonemptyLines hl)
  rw [placeLine_cells] at hc
  obtain ⟨d, hd, rfl⟩ := List.mem_map.mp hc
  obtain ⟨hx, hy⟩ := (g.onSheet_iff ..).mp (List.mem_filter.mp hd).2
  exact ⟨_, _, rfl, hx, hy⟩

theorem makeSheet_fresh (s : State) (ch : ChannelId) (f0 : Form) (f1 : Option Form) :
    SheetFresh (makeSheet s ch f0 f1) := by
  refine ⟨⟨Nat.zero_le _, fun l hl c hc => ?_⟩, rfl⟩
  cases f1 with
  | none =>
    rw [Sheet.rows, show (makeSheet s ch f0 none).slot1 = none from rfl, List.append_nil] at hl
    exact placeForm_onSheet _ _ _ l (List.mem_of_mem_filter hl) c hc
  | some f =>
    rw [Sheet.rows, show (makeSheet s ch f0 (some f)).slot1 = some (placeForm _ true f) from rfl] at hl
    obtain hl | hl := List.mem_append.mp hl
    · exact placeForm_onSheet _ _ _ l (List.mem_of_mem_filter hl) c hc
    · exact placeForm_onSheet _ _ _ l (List.mem_of_mem_filter hl) c hc

theorem startSheet_queue (s : State) : (startSheet s).queue = s.queue := by
  unfold startSheet
  repeat' split
  all_goals simp_all

theorem startSheet_chans (s : State) : (startSheet s).chans = s.chans := by
  unfold startSheet
  repeat' split
  all_goals rfl

theorem startSheet_freeCells (s : State) : (startSheet s).freeCells = s.freeCells := by
  unfold startSheet
  repeat' split
  all_goals rfl

theorem startSheet_roomWait (s : State) : (startSheet s).roomWait = s.roomWait := by
  unfold startSheet
  repeat' split
  all_goals rfl

theorem enterQueue_queue (ch : ChannelId) (f0 : Form) (f1 : Option Form) (s : State) :
    (enterQueue ch f0 f1 s).queue = s.queue ++ [makeSheet s ch f0 f1] := by
  unfold enterQueue
  dsimp only
  split
  · rw [startSheet_queue]
  · rfl

theorem enterQueue_freeCells (ch : ChannelId) (f0 : Form) (f1 : Option Form) (s : State) :
    (enterQueue ch f0 f1 s).freeCells = s.freeCells + entryClip s ch f0 f1 := by
  unfold enterQueue
  dsimp only
  split
  · rw [startSheet_freeCells]
  · rfl

theorem enterQueue_roomWait (ch : ChannelId) (f0 : Form) (f1 : Option Form) (s : State) :
    (enterQueue ch f0 f1 s).roomWait = s.roomWait := by
  unfold enterQueue
  dsimp only
  split
  · rw [startSheet_roomWait]
    rfl
  · rfl

theorem enterQueue_grows (ch : ChannelId) (f0 : Form) (f1 : Option Form) (s : State) :
    QueueGrows s (enterQueue ch f0 f1 s) [makeSheet s ch f0 f1] := by
  refine ⟨enterQueue_queue .., fun sh hsh => ?_, ?_⟩
  · rw [List.mem_singleton.mp hsh]
    exact makeSheet_fresh ..
  · unfold enterQueue
    dsimp only
    split
    next hidle =>
      refine .inr ⟨hidle.1, hidle.2, by simp, ?_⟩
      unfold startSheet
      simp only [hidle.2, List.nil_append]
      rw [if_neg (by simp [makeSheet, Config.attemptLimit])]
      rfl
    next hidle => exact .inl ⟨rfl, by tauto⟩

theorem entered_sheet_cells (s : State) (ch : ChannelId) (f0 : Form) (f1 : Option Form) :
    (makeSheet s ch f0 f1).cellCount + entryClip s ch f0 f1 = f0.cellCount + formCells f1 := by
  have h0 := cellCount_placeForm_add_clippedCells (s.ch ch).layout.geo false f0
  cases f1 with
  | none =>
    simp only [Sheet.cellCount, makeSheet, entryClip, formCells, Option.map_none, Option.getD_none]
    omega
  | some f =>
    have h1 := cellCount_placeForm_add_clippedCells (s.ch ch).layout.geo true f
    simp only [Sheet.cellCount, makeSheet, entryClip, formCells, Option.map_some, Option.getD_some]
    omega

/-- The cells of the forms that make a sheet are held in it or are free. -/
theorem cellsInAll_enterQueue (ch : ChannelId) (f0 : Form) (f1 : Option Form) (s : State) :
    cellsInAll (enterQueue ch f0 f1 s) = cellsInAll s + f0.cellCount + formCells f1 := by
  have hsheet := entered_sheet_cells s ch f0 f1
  have hclip : cellsInAll (s.modCh ch fun c =>
      { c with clipped := satAdd c.clipped (entryClip s ch f0 f1) }) = cellsInAll s :=
    Nat.add_right_cancel (m := (s.ch ch).ownCells) (cellsInAll_modCh s ch _)
  have hchans := State.ch_congr (enterQueue_chans ch f0 f1 s)
  have hacc : cellsInAll (enterQueue ch f0 f1 s) =
      cellsInAll (s.modCh ch fun c => { c with clipped := satAdd c.clipped (entryClip s ch f0 f1) }) +
        entryClip s ch f0 f1 + (makeSheet s ch f0 f1).cellCount := by
    simp only [cellsInAll, heldCells_eq, enterQueue_freeCells, enterQueue_queue, hchans, List.map_append,
      List.map_cons, List.map_nil, List.sum_append, List.sum_cons, List.sum_nil, State.modCh_freeCells,
      State.modCh_queue]
    omega
  omega

/-- The channel of a sheet that enters has its clip counter raised. -/
theorem enterQueue_ch_same (ch : ChannelId) (f0 : Form) (f1 : Option Form) (s : State) :
    (enterQueue ch f0 f1 s).ch ch =
      { s.ch ch with clipped := satAdd (s.ch ch).clipped (entryClip s ch f0 f1) } := by
  rw [State.ch_congr (enterQueue_chans ch f0 f1 s), State.ch_modCh_same]

/-- A channel gives up forms, and their sheet enters with room. -/
theorem Sound.enter {b : Option ChannelId} {s : State} (h : SoundBut b s) {ch : ChannelId}
    {g : Channel → Channel} (hg : Reshaped (s.ch ch) (g (s.ch ch))) {f0 : Form} {f1 : Option Form}
    (hcells : (s.ch ch).ownCells = (g (s.ch ch)).ownCells + f0.cellCount + formCells f1)
    (hroom : s.queue.length < 8) : Sound b b s (enterQueue ch f0 f1 (s.modCh ch g)) := by
  have hclip := Sound.registers (h.modCh hg) (ch := ch)
    (f := fun c => { c with clipped := satAdd c.clipped (entryClip (s.modCh ch g) ch f0 f1) })
    ⟨rfl, rfl, rfl, rfl, rfl⟩
  have hchans := State.ch_congr (enterQueue_chans ch f0 f1 (s.modCh ch g))
  have hgrows := enterQueue_grows ch f0 f1 (s.modCh ch g)
  refine ⟨fun i => by rw [hchans]; exact hclip.chans i, ?_, ⟨_, hgrows.queue, hgrows.fresh, hgrows.link⟩, ?_,
    fun hs => ?_⟩
  · rw [cellsInAll_enterQueue]
    have hmod := cellsInAll_modCh s ch g
    omega
  · rw [enterQueue_queue, List.length_append, State.modCh_queue, List.length_singleton]
    omega
  · refine (hclip.waits (hs.modCh (fun _ => hg.state) hg.due)).congr (enterQueue_cellWait ..)
      (enterQueue_roomWait ..) fun i => ?_
    rw [hchans]
    exact ⟨fun _ => ⟨rfl, rfl⟩, rfl⟩

end Sys2Proof.Machine
end

section
/-! SUPPORT. Soundness of closes, breaks, movements and completions (R14, R48, R53, R54, R71 to R76). -/

namespace Sys2Proof.Machine

/-! ### Papers -/

theorem Form.opened_ok (tapeLength firstLine : Nat) :
    FormOk (Form.opened tapeLength firstLine) ∧ FormUnplaced (Form.opened tapeLength firstLine) :=
  ⟨⟨List.Pairwise.nil, nofun⟩, nofun⟩

@[simp] theorem Form.opened_cellCount (tapeLength firstLine : Nat) :
    (Form.opened tapeLength firstLine).cellCount = 0 := rfl

/-- A new form is open at a position of the tape. -/
theorem PaperOk.opened {t : Tape} (ht : TapeOk t) {pos firstLine : Nat} (hpos : pos < t.length)
    (hfirst : firstLine ≤ pos) : PaperOk ⟨t, pos, Form.opened t.length firstLine⟩ :=
  ⟨ht, hpos, (Form.opened_ok ..).1, (Form.opened_ok ..).2, rfl, hfirst⟩

theorem Walk.step_pos_lt {t : Tape} (ht : 0 < t.length) (w : Walk) : (w.step t).pos < t.length := by
  unfold Walk.step
  dsimp only
  split
  · assumption
  · exact ht

theorem Walk.step_wrapped {t : Tape} {w : Walk} (h : (w.step t).wrapped = false) :
    w.wrapped = false ∧ (w.step t).pos = w.pos + 1 := by
  unfold Walk.step at h ⊢
  dsimp only at h ⊢
  split at h
  · exact ⟨h, by rw [if_pos (by assumption)]⟩
  · cases h

theorem Walk.run_pos_lt {t : Tape} (m : Nat) {w : Walk} (h : w.pos < t.length) :
    (Walk.run t m w).pos < t.length := by
  induction m generalizing w with
  | zero => exact h
  | succ m ih => exact ih (Walk.step_pos_lt (Nat.zero_lt_of_lt h) w)

/-- A walk that has not passed the form's end has not gone back. -/
theorem Walk.le_run_pos {t : Tape} (m : Nat) {w : Walk} (h : (Walk.run t m w).wrapped = false) :
    w.wrapped = false ∧ w.pos ≤ (Walk.run t m w).pos := by
  induction m generalizing w with
  | zero => exact ⟨h, Nat.le_refl _⟩
  | succ m ih =>
    obtain ⟨hstep, hle⟩ := ih h
    obtain ⟨hw, hpos⟩ := Walk.step_wrapped hstep
    exact ⟨hw, by rw [Walk.run]; omega⟩

/-! ### Operations taken in hand and put down -/

theorem SoundBut.hold {s t : State} (h : SoundBut none s) (hchans : t.chans = s.chans) (ch : ChannelId) :
    SoundBut (some ch) t := fun i => by
  rw [State.ch_congr hchans]
  exact h.weaken (some ch) i

theorem not_isPlacing_of_isMoving {st : ChState} (h : st.isMoving = true) : st.isPlacing = false := by
  unfold ChState.isMoving ChState.isPlacing at *
  split at h
  · split at h
    next hstage => simp [hstage]
    next => cases h
  · cases h

/-- An operation is taken in hand as it leaves the wait lists. -/
theorem Sound.takeUp {s t : State} (h : SoundBut none s) (ch : ChannelId) (hchans : t.chans = s.chans)
    (hfree : t.freeCells = s.freeCells) (hqueue : t.queue = s.queue) (hlink : t.link = s.link)
    (hcell : WaitsBut none s → t.cellWait.Nodup ∧ ∀ i, i ∈ t.cellWait ↔ i ≠ ch ∧ i ∈ s.cellWait)
    (hroom : WaitsBut none s → t.roomWait.Nodup ∧ ∀ x, x ∈ t.roomWait ↔ x ≠ .move ch ∧ x ∈ s.roomWait) :
    Sound none (some ch) s t := by
  refine ⟨h.hold hchans ch, cellsInAll_congr hfree hchans hqueue, ⟨[], .of_eq hqueue hlink⟩,
    by rw [hqueue]; exact Nat.le_max_right .., fun hs => ?_⟩
  obtain ⟨cnodup, cmem⟩ := hcell hs
  obtain ⟨rnodup, rmem⟩ := hroom hs
  have hch := State.ch_congr hchans
  rw [waitsBut_iff] at hs ⊢
  obtain ⟨_, _, hlines, hmoves, hrunOuts⟩ := hs
  refine ⟨cnodup, rnodup, fun i => ?_, fun i => ?_, fun i => ?_⟩
  · rw [cmem, hlines, hch]
    by_cases hi : i = ch
    · simp [hi]
    · simp [hi, Ne.symm hi]
  · rw [rmem, hmoves, hch]
    by_cases hi : i = ch
    · simp [hi]
    · simp [hi, Ne.symm hi]
  · rw [rmem, hrunOuts, hch]
    simp

/-- An operation that waits in neither list is in hand. -/
theorem Sound.inHand {s : State} (h : SoundBut none s) {ch : ChannelId}
    (hplacing : (s.ch ch).state.isPlacing = false) (hmoving : (s.ch ch).state.isMoving = false) :
    Sound none (some ch) s s := by
  refine .takeUp h ch rfl rfl rfl rfl (fun hs => ?_) (fun hs => ?_)
  · rw [waitsBut_iff] at hs
    obtain ⟨hcell, _, hlines, _, _⟩ := hs
    refine ⟨hcell, fun i => ⟨fun hi => ⟨?_, hi⟩, And.right⟩⟩
    rintro rfl
    simp [hlines, hplacing] at hi
  · rw [waitsBut_iff] at hs
    obtain ⟨_, hroom, _, hmoves, _⟩ := hs
    refine ⟨hroom, fun x => ⟨fun hx => ⟨?_, hx⟩, And.right⟩⟩
    rintro rfl
    simp [hmoves, hmoving] at hx

/-- A change of the channel whose operation is in hand. -/
theorem Sound.change {s : State} {ch : ChannelId} (h : SoundBut (some ch) s) {f : Channel → Channel}
    (hshape : ChannelShape (f (s.ch ch))) (hdue : (f (s.ch ch)).runOutDue = (s.ch ch).runOutDue)
    (hcells : (f (s.ch ch)).ownCells = (s.ch ch).ownCells) :
    Sound (some ch) (some ch) s (s.modCh ch f) := by
  refine ⟨fun i => ?_, ?_, ⟨[], .of_eq rfl rfl⟩, Nat.le_max_right ..,
    fun hs => hs.modCh (fun hb => absurd rfl hb) hdue⟩
  · by_cases hi : i = ch
    · subst hi
      rw [State.ch_modCh_same]
      exact ⟨hshape, fun hb => absurd rfl hb⟩
    · rw [State.ch_modCh_other s f hi]
      exact h i
  · have hmod := cellsInAll_modCh s ch f
    omega

/-- The operation in hand is put down as it stands, on the list it waits on. -/
theorem Sound.putDown {s t : State} {ch : ChannelId} (h : SoundBut (some ch) s) (hfits : OpFits (s.ch ch))
    (hchans : t.chans = s.chans) (hfree : t.freeCells = s.freeCells) (hqueue : t.queue = s.queue)
    (hlink : t.link = s.link)
    (hcell : WaitsBut (some ch) s → t.cellWait.Nodup ∧
      ∀ i, i ∈ t.cellWait ↔ i ∈ s.cellWait ∨ (i = ch ∧ (s.ch ch).state.isPlacing = true))
    (hroom : WaitsBut (some ch) s → t.roomWait.Nodup ∧
      ∀ x, x ∈ t.roomWait ↔ x ∈ s.roomWait ∨ (x = .move ch ∧ (s.ch ch).state.isMoving = true)) :
    Sound (some ch) none s t := by
  have hch := State.ch_congr hchans
  refine ⟨fun i => ?_, cellsInAll_congr hfree hchans hqueue, ⟨[], .of_eq hqueue hlink⟩,
    by rw [hqueue]; exact Nat.le_max_right .., fun hs => ?_⟩
  · rw [hch]
    by_cases hi : i = ch
    · subst hi
      exact ⟨(h i).1, fun _ => hfits⟩
    · exact ⟨(h i).1, fun _ => (h i).2 (by simpa using Ne.symm hi)⟩
  · obtain ⟨cnodup, cmem⟩ := hcell hs
    obtain ⟨rnodup, rmem⟩ := hroom hs
    rw [waitsBut_iff] at hs ⊢
    obtain ⟨_, _, hlines, hmoves, hrunOuts⟩ := hs
    refine ⟨cnodup, rnodup, fun i => ?_, fun i => ?_, fun i => ?_⟩
    · rw [cmem, hlines, hch]
      by_cases hi : i = ch
      · simp [hi]
      · simp [hi, Ne.symm hi]
    · rw [rmem, hmoves, hch]
      by_cases hi : i = ch
      · simp [hi]
      · simp [hi, Ne.symm hi]
    · rw [rmem, hrunOuts, hch]
      simp

/-- An operation that waits on neither list, or is over, is put down. -/
theorem Sound.release {s : State} {ch : ChannelId} (h : SoundBut (some ch) s) (hfits : OpFits (s.ch ch))
    (hplacing : (s.ch ch).state.isPlacing = false) (hmoving : (s.ch ch).state.isMoving = false) :
    Sound (some ch) none s s :=
  .putDown h hfits rfl rfl rfl rfl (fun hs => ⟨hs.cellNodup, by simp [hplacing]⟩)
    (fun hs => ⟨hs.roomNodup, by simp [hmoving]⟩)

/-- A state without an operation waits on no list. -/
theorem no_wait_of_op?_eq_none {st : ChState} (h : st.op? = none) :
    st.isPlacing = false ∧ st.isMoving = false := by
  cases st with
  | busy op => cases h
  | _ => exact ⟨rfl, rfl⟩

/-- A change after which the channel has no operation ends the one in hand. -/
theorem Sound.endWith {s : State} {ch : ChannelId} (h : SoundBut (some ch) s) {f : Channel → Channel}
    (hshape : ChannelShape (f (s.ch ch))) (hdue : (f (s.ch ch)).runOutDue = (s.ch ch).runOutDue)
    (hcells : (f (s.ch ch)).ownCells = (s.ch ch).ownCells) (hover : (f (s.ch ch)).state.op? = none) :
    Sound (some ch) none s (s.modCh ch f) := by
  have hchange := Sound.change h hshape hdue hcells
  refine hchange.trans (.release hchange.chans ?_ ?_ ?_)
  · rw [State.ch_modCh_same]; exact opFits_of_op?_eq_none hover
  · rw [State.ch_modCh_same]; exact (no_wait_of_op?_eq_none hover).1
  · rw [State.ch_modCh_same]; exact (no_wait_of_op?_eq_none hover).2

/-- The waiting move joins the room-wait list (R54, R100). -/
theorem joinRoom_move_sound {s : State} {ch : ChannelId} (h : SoundBut (some ch) s)
    (hfits : OpFits (s.ch ch)) (hmoving : (s.ch ch).state.isMoving = true) :
    Sound (some ch) none s (joinRoom (.move ch) s) := by
  have hplacing := not_isPlacing_of_isMoving hmoving
  unfold joinRoom
  split
  next hin =>
    refine .putDown h hfits rfl rfl rfl rfl (fun hs => ⟨hs.cellNodup, by simp [hplacing]⟩)
      (fun hs => ⟨hs.roomNodup, fun x => ?_⟩)
    have hmem : Claim.move ch ∈ s.roomWait := List.contains_iff_mem.mp hin
    constructor
    · exact .inl
    · rintro (hx | ⟨rfl, _⟩)
      · exact hx
      · exact hmem
  next hout =>
    refine .putDown h hfits rfl rfl rfl rfl (fun hs => ⟨hs.cellNodup, by simp [hplacing]⟩)
      (fun hs => ⟨?_, fun x => by simp [hmoving]⟩)
    refine List.nodup_append.mpr ⟨hs.roomNodup, List.nodup_singleton _, fun a ha b hb => ?_⟩
    rw [List.mem_singleton.mp hb]
    rintro rfl
    exact hout (List.contains_iff_mem.mpr ha)

/-- A due run-out action is dropped with its claim (R78, R100). -/
theorem dropRunOut_sound {b : Option ChannelId} {s : State} (h : SoundBut b s) (ch : ChannelId) :
    Sound b b s (dropRunOut ch s) := by
  have hch : ∀ i, (dropRunOut ch s).ch i =
      if i = ch then { s.ch i with runOutDue := false } else s.ch i := fun i => by
    by_cases hi : i = ch
    · subst hi
      rw [if_pos rfl]
      exact State.ch_modCh_same s i fun c => { c with runOutDue := false }
    · rw [if_neg hi]
      exact State.ch_modCh_other s (fun c => { c with runOutDue := false }) hi
  refine ⟨fun i => ?_, ?_, ⟨[], .of_eq rfl rfl⟩, Nat.le_max_right .., fun hs => ?_⟩
  · rw [hch]
    split
    · obtain ⟨⟨h1, h2, h3, h4⟩, hfits⟩ := h i
      exact ⟨⟨fun hoff => ⟨(h1 hoff).1, (h1 hoff).2.1, rfl⟩, h2, h3, h4⟩,
        fun hb => (hfits hb).of_paper rfl id⟩
    · exact h i
  · exact Nat.add_right_cancel (m := (s.ch ch).ownCells)
      (cellsInAll_modCh s ch fun c => { c with runOutDue := false })
  · rw [waitsBut_iff] at hs ⊢
    obtain ⟨hcell, hroom, hlines, hmoves, hrunOuts⟩ := hs
    have hstate : ∀ i, ((dropRunOut ch s).ch i).state = (s.ch i).state := fun i => by
      rw [hch]; split <;> rfl
    refine ⟨hcell, hroom.filter _, fun i => by rw [hstate]; exact hlines i, fun i => ?_, fun i => ?_⟩
    · rw [hstate, ← hmoves]
      simp [dropRunOut]
    · rw [hch]
      by_cases hi : i = ch
      · simp [dropRunOut, hi]
      · simp [dropRunOut, hi, hrunOuts]

/-- An operation starts on a channel without one, and is in hand (R9 to R11, R15). -/
theorem startOp_sound {s : State} (h : SoundBut none s) {ch : ChannelId}
    (hquiet : (s.ch ch).state.op? = none) (op : Op) :
    Sound none (some ch) s (startOp ch op s) := by
  obtain ⟨hplacing, hmoving⟩ := no_wait_of_op?_eq_none hquiet
  have htake := Sound.inHand h hplacing hmoving
  have hstart : Sound (some ch) (some ch) s (s.modCh ch fun c => { c with state := .busy op }) := by
    obtain ⟨_, h2, h3, h4⟩ := (h ch).1
    exact .change htake.chans ⟨nofun, h2, h3, h4⟩ rfl rfl
  exact (htake.trans hstart).trans (dropRunOut_sound hstart.chans ch)

/-! ### Closes (R53, R71, R72) -/

theorem hasPlace_iff (s : State) : s.hasPlace = true ↔ s.queue.length < 8 := by
  rw [State.hasPlace, decide_eq_true_iff]
  rfl

theorem roomMet_place {s : State} {ch : ChannelId} {closes : Bool} (h : roomMet ch closes s = true)
    (hcloses : closes = true) (hneeds : (s.ch ch).closeNeedsPlace = true) : s.queue.length < 8 := by
  rw [← hasPlace_iff]
  simpa [roomMet, hcloses, hneeds] using h

/-- A channel gives its open form away and has another paper, whose form is empty. -/
structure GivesForm (c d : Channel) : Prop where
  state : d.state = c.state
  due : d.runOutDue = c.runOutDue
  sheet : d.pendSheet = c.pendSheet
  layout : d.layout = c.layout
  paper : ∃ q, d.paper = some q ∧ PaperOk q ∧ q.form.cellCount = 0

theorem openCells_of_paper {c : Channel} {p : Paper} (h : c.paper = some p) :
    c.openCells = p.form.cellCount := by
  rw [Channel.openCells, h]

/-- The channel with a new paper and whatever pending sheet the routing leaves it is in shape. -/
theorem GivesForm.reshaped {c d : Channel} (h : GivesForm c d) (hc : ChannelShape c) {p : Paper}
    (hp : c.paper = some p) {sheet : Option Form}
    (hpending : sheet.isSome = true → c.layout.geo.twoUp = true)
    (hsheet : ∀ f ∈ sheet, FormOk f ∧ FormUnplaced f) : Reshaped c { d with pendSheet := sheet } := by
  obtain ⟨q, hq, hok, _⟩ := h.paper
  refine ⟨⟨fun hoff => ?_, fun hs => ?_, fun p' hp' => ?_, hsheet⟩, h.state, h.due,
    fun hfits => hfits.of_paper h.state fun _ => by simp [hq]⟩
  · have hnone := (hc.offline (h.state.symm.trans hoff)).1
    rw [hp] at hnone
    cases hnone
  · exact ⟨by rw [h.layout]; exact hpending hs, by simp [hq]⟩
  · rw [hq] at hp'
    cases hp'
    exact hok

theorem GivesForm.ownCells {c d : Channel} (h : GivesForm c d) (sheet : Option Form) :
    ({ d with pendSheet := sheet } : Channel).ownCells = formCells sheet := by
  obtain ⟨q, hq, _, hempty⟩ := h.paper
  simp [Channel.ownCells, Channel.openCells, hq, hempty]

/-- A form is closed and routed as another is opened, with room for a sheet that enters. -/
theorem Sound.close {b : Option ChannelId} {s : State} (h : SoundBut b s) {ch : ChannelId} {p : Paper}
    (hp : (s.ch ch).paper = some p) {g : Channel → Channel} (hg : GivesForm (s.ch ch) (g (s.ch ch)))
    (hroom : (s.ch ch).closeNeedsPlace = true → s.queue.length < 8) :
    Sound b b s (routeClose ch p.form (s.modCh ch g)) := by
  have hshape := (h ch).1
  obtain ⟨_, _, hform, hunplaced, _, _⟩ := hshape.paper p hp
  have hown : (s.ch ch).ownCells = p.form.cellCount + formCells (s.ch ch).pendSheet := by
    rw [Channel.ownCells, openCells_of_paper hp]
  unfold routeClose
  rw [State.ch_modCh_same, hg.layout, hg.sheet]
  split
  next htwo =>
    split
    next hnone =>
      rw [State.modCh_modCh]
      refine .modCh h (hg.reshaped hshape hp (fun _ => htwo) ?_) ?_
      · rintro f ⟨⟩
        exact ⟨hform, hunplaced⟩
      · rw [hg.ownCells, hown, hnone]
        rfl
    next f0 hf0 =>
      rw [State.modCh_modCh]
      refine .enter h (hg.reshaped hshape hp (sheet := none) (by simp) (by simp)) ?_ (hroom ?_)
      · rw [hg.ownCells, hown, hf0]
        simp only [formCells]
        omega
      · simp [Channel.closeNeedsPlace, hf0]
  next hone =>
    have hnone : (s.ch ch).pendSheet = none := by
      by_contra hsome
      exact hone (hshape.pending (Option.isSome_iff_ne_none.mpr hsome)).1
    have hsame : ({ g (s.ch ch) with pendSheet := none } : Channel) = g (s.ch ch) := by
      rw [← hnone, ← hg.sheet]
    have hreshaped := hg.reshaped hshape hp (sheet := none) (by simp) (by simp)
    have hcells := hg.ownCells none
    rw [hsame] at hreshaped hcells
    refine .enter h hreshaped ?_ (hroom ?_)
    · rw [hcells, hown, hnone]
      simp only [formCells]
      omega
    · simp [Channel.closeNeedsPlace, hone]

/-- Routing a form changes the channel's pending sheet and clip counter alone. -/
theorem routeClose_ch (ch : ChannelId) (f : Form) (s : State) :
    ∃ sheet clipped, (routeClose ch f s).ch ch = { s.ch ch with pendSheet := sheet, clipped := clipped } := by
  unfold routeClose
  split
  · split
    · exact ⟨some f, (s.ch ch).clipped, State.ch_modCh_same ..⟩
    · rw [enterQueue_ch_same, State.ch_modCh_same]
      exact ⟨none, _, rfl⟩
  · rw [enterQueue_ch_same]
    exact ⟨(s.ch ch).pendSheet, _, rfl⟩

theorem routeClose_state (ch : ChannelId) (f : Form) (s : State) :
    ((routeClose ch f s).ch ch).state = (s.ch ch).state := by
  obtain ⟨_, _, h⟩ := routeClose_ch ch f s
  rw [h]

/-- A pending sheet is released, with room (R73). -/
theorem releaseSheet_sound {b : Option ChannelId} {s : State} (h : SoundBut b s) {ch : ChannelId}
    (hroom : (s.ch ch).pendSheet.isSome = true → s.queue.length < 8) :
    Sound b b s (releaseSheet ch s) := by
  unfold releaseSheet
  split
  · exact .refl h
  next f0 hf0 =>
    obtain ⟨h1, h2, h3, h4⟩ := (h ch).1
    refine .enter h ⟨⟨fun hoff => ⟨(h1 hoff).1, rfl, (h1 hoff).2.2⟩, by simp, h3, by simp⟩, rfl, rfl,
      fun hfits => hfits.of_paper (c := s.ch ch) rfl id⟩ ?_ (hroom (by rw [hf0]; rfl))
    simp only [Channel.ownCells, hf0, formCells]
    rfl

/-- A break opens a CONTINUED form where it closes one (R74). -/
theorem breakForm_sound {b : Option ChannelId} {s : State} (h : SoundBut b s) {ch : ChannelId}
    (hroom : (s.ch ch).closeNeedsPlace = true → s.queue.length < 8) :
    Sound b b s (breakForm ch s) := by
  unfold breakForm
  split
  · exact .refl h
  next p hp =>
    obtain ⟨htape, hpos, _⟩ := (h ch).1.paper p hp
    exact .close h hp ⟨rfl, rfl, rfl, rfl, _, rfl, .opened htape hpos (Nat.le_refl _), rfl⟩ hroom

/-! ### Forced breaks (R75, R76) -/

theorem routeClose_length_le (ch : ChannelId) (f : Form) (s : State) :
    (routeClose ch f s).queue.length ≤ s.queue.length + 1 := by
  unfold routeClose
  split
  · split
    · exact Nat.le_succ _
    · simp [enterQueue_queue]
  · simp [enterQueue_queue]

theorem breakForm_length_le (ch : ChannelId) (s : State) :
    (breakForm ch s).queue.length ≤ s.queue.length + 1 := by
  unfold breakForm
  split
  · exact Nat.le_succ _
  · exact routeClose_length_le ..

theorem releaseSheet_length_le (ch : ChannelId) (s : State) :
    (releaseSheet ch s).queue.length ≤ s.queue.length + 1 := by
  unfold releaseSheet
  split
  · exact Nat.le_succ _
  · simp [enterQueue_queue]

theorem breakVictim_sound {s : State} (h : SoundBut none s) (v : ChannelId) (hroom : s.queue.length < 7) :
    Sound none none s (breakVictim v s) := by
  have hbreak := breakForm_sound h (ch := v) fun _ => by omega
  have hcount : Sound none none s
      ((breakForm v s).modCh v fun c => { c with forcedBreaks := satAdd c.forcedBreaks 1 }) :=
    hbreak.trans (.registers hbreak.chans ⟨rfl, rfl, rfl, rfl, rfl⟩)
  have hlength := breakForm_length_le v s
  unfold breakVictim
  dsimp only
  split
  · refine hcount.trans (releaseSheet_sound hcount.chans fun _ => ?_)
    rw [State.modCh_queue]
    omega
  · exact hcount

theorem breakVictim_length_le (v : ChannelId) (s : State) :
    (breakVictim v s).queue.length ≤ s.queue.length + 2 := by
  have hbreak := breakForm_length_le v s
  unfold breakVictim
  dsimp only
  split
  · refine (releaseSheet_length_le ..).trans ?_
    rw [State.modCh_queue]
    omega
  · rw [State.modCh_queue]
    omega

/-- A forced break on an empty queue has room for every sheet that it makes (R76). -/
theorem forcedBreak_sound {s : State} (h : SoundBut none s) (waiting : ChannelId) (hempty : s.queue = []) :
    Sound none none s (forcedBreak waiting s) := by
  have hzero : s.queue.length = 0 := by rw [hempty]; rfl
  have hrest : ∀ t, Sound none none s t → t.queue.length ≤ 2 →
      Sound none none s (releaseSheet waiting t) ∧
        ∀ ch, Sound none none s (releaseSheet ch (releaseSheet waiting t)) := by
    intro t hsound hlength
    have hrelease := releaseSheet_sound hsound.chans (ch := waiting) fun _ => by omega
    have hmore := releaseSheet_length_le waiting t
    exact ⟨hsound.trans hrelease, fun ch =>
      (hsound.trans hrelease).trans (releaseSheet_sound hrelease.chans fun _ => by omega)⟩
  unfold forcedBreak
  cases victimOf waiting s with
  | some v =>
    have hlength := breakVictim_length_le v s
    obtain ⟨hone, htwo⟩ := hrest _ (breakVictim_sound h v (by omega)) (by omega)
    dsimp only
    split
    · split
      · exact htwo _
      · exact hone
    · exact hone
  | none =>
    obtain ⟨hone, htwo⟩ := hrest s (.refl h) (by omega)
    dsimp only
    split
    · split
      · exact htwo _
      · exact hone
    · exact hone

/-! ### Movements (R48, R53, R54) -/

theorem makeMove_sound {b : Option ChannelId} {s : State} (h : SoundBut b s) {ch : ChannelId} {p : Paper}
    (hp : (s.ch ch).paper = some p) {w : Walk} (hpos : w.pos < p.tape.length)
    (hstay : w.wrapped = false → p.pos ≤ w.pos) (hroom : roomMet ch w.wrapped s = true) :
    Sound b b s (makeMove ch p w s) := by
  obtain ⟨htape, _, hform, hunplaced, hlength, hfirst⟩ := (h ch).1.paper p hp
  unfold makeMove
  dsimp only
  split
  next hwrapped =>
    exact .close h hp ⟨rfl, rfl, rfl, rfl, _, rfl, .opened htape hpos (Nat.zero_le _), rfl⟩
      (roomMet_place hroom hwrapped)
  next hwrapped =>
    have hle := hstay (by simpa using hwrapped)
    obtain ⟨h1, h2, _, h4⟩ := (h ch).1
    refine .modCh h ⟨⟨fun hoff => ?_, fun hs => ⟨(h2 hs).1, rfl⟩, ?_, h4⟩, rfl, rfl,
      fun hfits => hfits.of_paper (c := s.ch ch) rfl fun _ => rfl⟩ ?_
    · have hnone := (h1 hoff).1
      rw [hp] at hnone
      cases hnone
    · rintro q ⟨⟩
      exact ⟨htape, hpos, hform, hunplaced, hlength, hfirst.trans hle⟩
    · simp [Channel.ownCells, Channel.openCells, hp]

theorem makeMove_state (ch : ChannelId) (p : Paper) (w : Walk) (s : State) :
    ((makeMove ch p w s).ch ch).state = (s.ch ch).state := by
  unfold makeMove
  dsimp only
  split
  · rw [routeClose_state, State.ch_modCh_same]
  · rw [State.ch_modCh_same]

theorem walk_pos_lt {c : Channel} {p : Paper} (hp : PaperOk p) (m : Nat) :
    (c.walk p m).pos < p.tape.length := Walk.run_pos_lt m hp.2.1

theorem le_walk_pos {c : Channel} {p : Paper} {m : Nat} (h : (c.walk p m).wrapped = false) :
    p.pos ≤ (c.walk p m).pos := (Walk.le_run_pos m h).2

/-! ### The end of an operation (R14, R15, R160) -/

/-- The state after a pending STOP has been settled. -/
theorem stopped_or_idle_quiet (b : Bool) :
    (if b = true then ChState.stopped else .idle) ≠ .offline ∧
      (if b = true then ChState.stopped else .idle).op? = none := by
  cases b <;> simp [ChState.op?]

theorem endPanelOp_sound {s : State} {ch : ChannelId} (h : SoundBut (some ch) s) :
    Sound (some ch) none s (endPanelOp ch s) := by
  obtain ⟨_, h2, h3, h4⟩ := (h ch).1
  obtain ⟨hbound, hover⟩ := stopped_or_idle_quiet (s.ch ch).pendStop
  exact .endWith h ⟨fun hoff => absurd hoff hbound, h2, h3, h4⟩ rfl rfl hover

theorem settleStop_sound {s : State} {ch : ChannelId} (h : SoundBut none s)
    (hquiet : (s.ch ch).state.op? = none) : Sound none none s (settleStop ch s) := by
  obtain ⟨hplacing, hmoving⟩ := no_wait_of_op?_eq_none hquiet
  have htake := Sound.inHand h hplacing hmoving
  obtain ⟨_, h2, h3, h4⟩ := (h ch).1
  obtain ⟨hbound, hover⟩ := stopped_or_idle_quiet (s.ch ch).pendStop
  exact htake.trans (.endWith htake.chans ⟨fun hoff => absurd hoff hbound, h2, h3, h4⟩ rfl rfl hover)

theorem panelMove_sound {s : State} {ch : ChannelId} (h : SoundBut (some ch) s) {op : Op}
    (hbusy : (s.ch ch).state = .busy op) (hop : OpOk (s.ch ch) op) {held : Option Tape}
    (hstage : op.stage = .moving held) : Sound (some ch) none s (panelMove ch s) := by
  unfold panelMove
  split
  · exact endPanelOp_sound h
  next p hp =>
    have hpaper := (h ch).1.paper p hp
    dsimp only
    split
    next hroom =>
      have hmove := makeMove_sound h hp (walk_pos_lt hpaper _) le_walk_pos hroom
      exact hmove.trans (endPanelOp_sound hmove.chans)
    next =>
      exact joinRoom_move_sound h (opFits_of_busy hbusy hop) (by simp [hbusy, ChState.isMoving, hstage])

theorem startEject_sound {s : State} {ch : ChannelId} (h : SoundBut none s)
    (hquiet : (s.ch ch).state.op? = none) (hmoves : (s.ch ch).ejectMoves = true) :
    Sound none none s (startEject ch s) := by
  have hstart := startOp_sound h hquiet ejectOp
  refine hstart.trans (panelMove_sound hstart.chans (op := ejectOp) (by rw [startOp_ch_same]) ?_ rfl)
  rw [startOp_ch_same]
  refine .inr ⟨nofun, rfl, ?_, rfl⟩
  unfold Channel.ejectMoves at hmoves
  split at hmoves
  next p hp => simp [hp]
  next => cases hmoves

theorem applyPending_sound {s : State} {ch : ChannelId} (h : SoundBut none s)
    (hquiet : (s.ch ch).state.op? = none) : Sound none none s (applyPending ch s) := by
  have hdrop : Sound none none s (s.modCh ch fun c => { c with pendEject := false }) :=
    .registers h ⟨rfl, rfl, rfl, rfl, rfl⟩
  unfold applyPending
  split
  · dsimp only
    split
    next hmoves =>
      exact hdrop.trans (startEject_sound hdrop.chans (by rw [State.ch_modCh_same]; exact hquiet)
        (by rw [State.ch_modCh_same]; exact hmoves))
    next => exact hdrop.trans (settleStop_sound hdrop.chans (by rw [State.ch_modCh_same]; exact hquiet))
  · exact settleStop_sound h hquiet

theorem requestTally_chans (ch : ChannelId) (s : State) : (requestTally ch s).chans = s.chans := by
  unfold requestTally
  dsimp only
  split <;> rfl

theorem requestTally_sound {b : Option ChannelId} {s : State} (h : SoundBut b s) (ch : ChannelId) :
    Sound b b s (requestTally ch s) := by
  unfold requestTally
  dsimp only
  split <;> exact .of_eq h rfl rfl rfl rfl rfl rfl

theorem completed_state (c : Channel) (op : Op) (out : OpOutcome) :
    (c.completed op out).state ≠ .offline ∧ (c.completed op out).state.op? = none := by
  cases out <;> exact ⟨nofun, rfl⟩

theorem complete_sound {s : State} {ch : ChannelId} (h : SoundBut (some ch) s) {op : Op}
    (hbusy : (s.ch ch).state = .busy op) (out : OpOutcome) : Sound (some ch) none s (complete ch out s) := by
  obtain ⟨_, h2, h3, h4⟩ := (h ch).1
  obtain ⟨hbound, hover⟩ := completed_state (s.ch ch) op out
  have hdone : Sound (some ch) none s (s.modCh ch fun c => c.completed op out) :=
    .endWith h ⟨fun hoff => absurd hoff hbound, h2, h3, h4⟩ rfl rfl hover
  have htally : ∃ t, (if op.kind.isPrint && op.linePlaced
      then requestTally ch (s.modCh ch fun c => c.completed op out)
      else s.modCh ch fun c => c.completed op out) = t ∧ Sound (some ch) none s t ∧
        (t.ch ch).state = ((s.ch ch).completed op out).state := by
    split
    · refine ⟨_, rfl, hdone.trans (requestTally_sound hdone.chans ch), ?_⟩
      rw [State.ch_congr (requestTally_chans ..), State.ch_modCh_same]
    · exact ⟨_, rfl, hdone, by rw [State.ch_modCh_same]⟩
  obtain ⟨t, ht, hsound, hstate⟩ := htally
  unfold complete
  rw [hbusy]
  dsimp only
  rw [ht]
  split
  · exact hsound
  · exact hsound.trans (applyPending_sound hsound.chans (by rw [hstate]; exact hover))

/-! ### MOVING (R47, R49 to R54) -/

theorem OpOk.moving {c : Channel} {op : Op} {held : Option Tape} (h : OpOk c op)
    (hstage : op.stage = .moving held) :
    (op.kind = .loadTape ∧ ∃ t ∈ held, TapeOk t) ∨
      (op.kind ≠ .loadTape ∧ held = none ∧ c.paper.isSome = true ∧ op.linePlaced = op.kind.isPrint) := by
  rw [OpOk, hstage] at h
  exact h

theorem isMoving_of_stage {st : ChState} {op : Op} {held : Option Tape} (hbusy : st = .busy op)
    (hstage : op.stage = .moving held) : st.isMoving = true := by
  simp [hbusy, ChState.isMoving, hstage]

theorem loadMove_sound {s : State} {ch : ChannelId} (h : SoundBut (some ch) s) {op : Op}
    (hbusy : (s.ch ch).state = .busy op) (hop : OpOk (s.ch ch) op) {held : Option Tape}
    (hstage : op.stage = .moving held) {t : Tape} (ht : TapeOk t) :
    Sound (some ch) none s (loadMove ch t s) := by
  have hlength : 0 < t.length := Nat.lt_of_lt_of_le (by decide) ht.1
  have hnew : PaperOk ⟨t, 0, Form.opened t.length 0⟩ := .opened ht hlength (Nat.zero_le _)
  have hinstall : (s.ch ch).openCells = 0 → Sound (some ch) none s (complete ch .normal (installTape ch t s)) := by
    intro hempty
    obtain ⟨h1, h2, _, h4⟩ := (h ch).1
    have hchange : Sound (some ch) (some ch) s (installTape ch t s) := by
      refine .change h ⟨fun hoff => ?_, fun hs => ⟨(h2 hs).1, rfl⟩, ?_, h4⟩ rfl ?_
      · cases hbusy.symm.trans hoff
      · rintro q ⟨⟩
        exact hnew
      · rw [Channel.ownCells, Channel.ownCells, hempty]
        rfl
    exact hchange.trans (complete_sound hchange.chans (by rw [installTape, State.ch_modCh_same]; exact hbusy) _)
  unfold loadMove
  split
  next hnone => exact hinstall (by rw [Channel.openCells, hnone])
  next p hp =>
    split
    next hunused => exact hinstall (by rw [openCells_of_paper hp]; exact hunused.2)
    next =>
      split
      next hroom =>
        have hclose : Sound (some ch) (some ch) s (routeClose ch p.form (installTape ch t s)) :=
          .close h hp ⟨rfl, rfl, rfl, rfl, _, rfl, hnew, rfl⟩ (roomMet_place hroom rfl)
        refine hclose.trans (complete_sound hclose.chans (op := op) ?_ _)
        rw [routeClose_state, installTape, State.ch_modCh_same]
        exact hbusy
      next => exact joinRoom_move_sound h (opFits_of_busy hbusy hop) (isMoving_of_stage hbusy hstage)

theorem carriageMove_sound {s : State} {ch : ChannelId} (h : SoundBut (some ch) s) {op : Op}
    (hbusy : (s.ch ch).state = .busy op) (hop : OpOk (s.ch ch) op) {held : Option Tape}
    (hstage : op.stage = .moving held) (hkind : op.kind ≠ .loadTape) :
    Sound (some ch) none s (carriageMove ch op s) := by
  have hsome : (s.ch ch).paper.isSome = true := by
    obtain ⟨hload, _⟩ | ⟨_, _, hpaper, _⟩ := hop.moving hstage
    · exact absurd hload hkind
    · exact hpaper
  unfold carriageMove
  split
  next hnone => rw [hnone] at hsome; cases hsome
  next p hp =>
    split
    · exact complete_sound h hbusy _
    · dsimp only
      split
      next hroom =>
        have hmove := makeMove_sound h hp (walk_pos_lt ((h ch).1.paper p hp) _) le_walk_pos hroom
        exact hmove.trans (complete_sound hmove.chans (by rw [makeMove_state]; exact hbusy) _)
      next => exact joinRoom_move_sound h (opFits_of_busy hbusy hop) (isMoving_of_stage hbusy hstage)

/-- An operation in hand, in MOVING, is moved and over, or waits for room. -/
theorem tryMove_sound {s : State} {ch : ChannelId} (h : SoundBut (some ch) s) {op : Op}
    (hbusy : (s.ch ch).state = .busy op) (hop : OpOk (s.ch ch) op) {held : Option Tape}
    (hstage : op.stage = .moving held) : Sound (some ch) none s (tryMove ch s) := by
  unfold tryMove
  rw [hbusy]
  dsimp only
  rw [hstage]
  dsimp only
  split
  · exact panelMove_sound h hbusy hop hstage
  next hload =>
    obtain ⟨_, t, ht, htape⟩ | ⟨hkind, _⟩ := hop.moving hstage
    · cases ht
      exact loadMove_sound h hbusy hop hstage htape
    · exact absurd hload hkind
  next _ hkind => exact carriageMove_sound h hbusy hop hstage hkind

end Sys2Proof.Machine
end

section
/-! SUPPORT. Soundness of merges, waits for cells, TAKING, GOs, run-out and claims (R9, R10, R24 to R47, R65 to R69,
R75, R77, R78, R100). -/

namespace Sys2Proof.Machine
open Sys2Proof.Claims

/-! ### Operations between their stages -/

theorem OpOk.placing {c : Channel} {op : Op} {strikes : List Strike} (h : OpOk c op)
    (hstage : op.stage = .placing strikes) :
    op.kind.isPrint = true ∧ c.paper.isSome = true ∧ op.linePlaced = false ∧ StrikesOk strikes := by
  rw [OpOk, hstage] at h
  exact h

theorem OpOk.takingLine {c : Channel} {op : Op} {r : LineRec} (h : OpOk c op)
    (hstage : op.stage = .takingLine r) :
    op.kind.isPrint = true ∧ c.paper.isSome = true ∧ op.linePlaced = false := by
  rw [OpOk, hstage] at h
  exact h

theorem OpOk.takingTape {c : Channel} {op : Op} {r : TapeRec} (h : OpOk c op)
    (hstage : op.stage = .takingTape r) :
    op.kind = .loadTape ∧ ∀ n ∈ r.length, tapeLengthOk n = true := by
  rw [OpOk, hstage] at h
  exact h

/-- The stage of the operation in hand is changed. -/
theorem setStage_sound {s : State} {ch : ChannelId} (h : SoundBut (some ch) s) {op : Op}
    (hbusy : (s.ch ch).state = .busy op) (st : Stage) :
    Sound (some ch) (some ch) s (s.setStage ch st) := by
  obtain ⟨_, h2, h3, h4⟩ := (h ch).1
  rw [State.setStage_busy s ch st op hbusy]
  exact .change h (f := fun c => { c with state := .busy { op with stage := st } }) ⟨nofun, h2, h3, h4⟩ rfl rfl

theorem setStage_ch {s : State} {ch : ChannelId} {op : Op} (hbusy : (s.ch ch).state = .busy op)
    (st : Stage) :
    (s.setStage ch st).ch ch = { s.ch ch with state := .busy { op with stage := st } } := by
  rw [State.setStage_busy s ch st op hbusy, State.ch_setCh_same]

/-- The operation in hand is put down in TAKING. -/
theorem putTaking_sound {s : State} {ch : ChannelId} (h : SoundBut (some ch) s) {op : Op}
    (hbusy : (s.ch ch).state = .busy op) {st : Stage} (hop : OpOk (s.ch ch) { op with stage := st })
    (hplacing : (ChState.busy { op with stage := st }).isPlacing = false)
    (hmoving : (ChState.busy { op with stage := st }).isMoving = false) :
    Sound (some ch) none s (s.setStage ch st) := by
  have hstage := setStage_sound h hbusy st
  have hch := setStage_ch hbusy st
  refine hstage.trans (.release hstage.chans ?_ ?_ ?_)
  · rw [hch]
    exact opFits_of_busy rfl hop
  · rw [hch]
    exact hplacing
  · rw [hch]
    exact hmoving

/-- A change of the stage's record within TAKING. -/
theorem restage_sound {s : State} {ch : ChannelId} (h : SoundBut none s) {op : Op}
    (hbusy : (s.ch ch).state = .busy op) {st : Stage} (hop : OpOk (s.ch ch) { op with stage := st })
    (hwas : (ChState.busy op).isPlacing = false ∧ (ChState.busy op).isMoving = false)
    (his : (ChState.busy { op with stage := st }).isPlacing = false ∧
      (ChState.busy { op with stage := st }).isMoving = false) :
    Sound none none s (s.setStage ch st) := by
  have htake := Sound.inHand h (ch := ch) (by rw [hbusy]; exact hwas.1) (by rw [hbusy]; exact hwas.2)
  exact htake.trans (putTaking_sound htake.chans hbusy hop his.1 his.2)

/-- A channel without an operation changes its state to another without one. -/
theorem restate_sound {s : State} {ch : ChannelId} (h : SoundBut none s)
    (hquiet : (s.ch ch).state.op? = none) {f : Channel → Channel} (hshape : ChannelShape (f (s.ch ch)))
    (hdue : (f (s.ch ch)).runOutDue = (s.ch ch).runOutDue)
    (hcells : (f (s.ch ch)).ownCells = (s.ch ch).ownCells) (hover : (f (s.ch ch)).state.op? = none) :
    Sound none none s (s.modCh ch f) := by
  obtain ⟨hplacing, hmoving⟩ := no_wait_of_op?_eq_none hquiet
  have htake := Sound.inHand h hplacing hmoving
  exact htake.trans (.endWith htake.chans hshape hdue hcells hover)

/-! ### Merges and retries (R65 to R69) -/

/-- The operation whose line has been merged (R12). -/
def Op.mergedLine (op : Op) : Op := { op with linePlaced := true, stage := .moving none }

/-- The channel whose line has been merged into its open form (R66, R67). -/
def Channel.withLine (p : Paper) (strikes : List Strike) (op : Op) (c : Channel) : Channel :=
  { c with
    paper := some (struck p strikes)
    droppedStrikes := satAdd c.droppedStrikes (fullStrikes (p.form.cellsAt p.pos) strikes)
    state := .busy op.mergedLine }

theorem mergeLine_eq {s : State} {ch : ChannelId} {op : Op} (hbusy : (s.ch ch).state = .busy op) {p : Paper}
    (hp : (s.ch ch).paper = some p) (strikes : List Strike) :
    mergeLine ch strikes s =
      { s.modCh ch (Channel.withLine p strikes op) with
        freeCells := s.freeCells - newCells (p.form.cellsAt p.pos) strikes } := by
  unfold mergeLine
  rw [hp]
  dsimp only
  rw [modCh_congr (g := Channel.withLine p strikes op) (by rw [hbusy]; rfl)]

theorem mergeLine_state {s : State} {ch : ChannelId} {op : Op} (hbusy : (s.ch ch).state = .busy op) {p : Paper}
    (hp : (s.ch ch).paper = some p) (strikes : List Strike) :
    ((mergeLine ch strikes s).ch ch).state = .busy op.mergedLine ∧
      ((mergeLine ch strikes s).ch ch).paper = some (struck p strikes) := by
  rw [mergeLine_eq hbusy hp, State.ch_with_freeCells, State.ch_modCh_same]
  exact ⟨rfl, rfl⟩

theorem mergeLine_sound {s : State} {ch : ChannelId} (h : SoundBut (some ch) s) {op : Op}
    (hbusy : (s.ch ch).state = .busy op) {p : Paper} (hp : (s.ch ch).paper = some p)
    {strikes : List Strike} (hstrikes : StrikesOk strikes) (hfree : s.cellsNeeded ch strikes ≤ s.freeCells) :
    Sound (some ch) (some ch) s (mergeLine ch strikes s) := by
  obtain ⟨_, h2, h3, h4⟩ := (h ch).1
  obtain ⟨_, _, hform, hunplaced, _, _⟩ := h3 p hp
  have hneed : s.cellsNeeded ch strikes = newCells (p.form.cellsAt p.pos) strikes := by
    rw [State.cellsNeeded, hp]
  have hcount := Form.cellCount_merge hform hunplaced p.pos hstrikes
  rw [mergeLine_eq hbusy hp]
  refine ⟨fun i => ?_, ?_, ⟨[], .of_eq rfl rfl⟩, Nat.le_max_right ..,
    fun hs => (hs.modCh (ch := ch) (f := Channel.withLine p strikes op) (fun hb => absurd rfl hb) rfl).congr
      rfl rfl fun _ => ⟨fun _ => ⟨rfl, rfl⟩, rfl⟩⟩
  · rw [State.ch_with_freeCells]
    by_cases hi : i = ch
    · subst hi
      rw [State.ch_modCh_same]
      refine ⟨⟨nofun, fun hs => ⟨(h2 hs).1, rfl⟩, ?_, h4⟩, fun hb => absurd rfl hb⟩
      rintro q ⟨⟩
      exact (h3 p hp).struck hstrikes
    · rw [State.ch_modCh_other _ _ hi]
      exact h i
  · have hmod := cellsInAll_modCh s ch (Channel.withLine p strikes op)
    have hown : (Channel.withLine p strikes op (s.ch ch)).ownCells =
        (s.ch ch).ownCells + newCells (p.form.cellsAt p.pos) strikes := by
      rw [Channel.ownCells, Channel.ownCells, openCells_of_paper hp,
        show (Channel.withLine p strikes op (s.ch ch)).openCells = _ from hcount]
      exact Nat.add_right_comm ..
    change s.freeCells - newCells (p.form.cellsAt p.pos) strikes +
      heldCells (s.modCh ch (Channel.withLine p strikes op)) = s.freeCells + heldCells s
    change s.freeCells + heldCells (s.modCh ch (Channel.withLine p strikes op)) + _ =
      s.freeCells + heldCells s + _ at hmod
    omega

theorem op_of_waitingStrikes {s : State} {ch : ChannelId} {strikes : List Strike}
    (h : s.waitingStrikes ch = some strikes) :
    ∃ op, (s.ch ch).state = .busy op ∧ op.stage = .placing strikes := by
  unfold State.waitingStrikes at h
  split at h
  next op hbusy =>
    split at h
    next hstage =>
      cases h
      exact ⟨op, hbusy, hstage⟩
    next => cases h
  next => cases h

theorem mergedLine_ok {c : Channel} {op : Op} (hprint : op.kind.isPrint = true)
    (hpaper : c.paper.isSome = true) : OpOk c op.mergedLine := by
  refine .inr ⟨fun hload => ?_, rfl, hpaper, hprint.symm⟩
  change op.kind = .loadTape at hload
  rw [hload] at hprint
  cases hprint

/-- The line in hand is merged, and its operation moves on. -/
theorem mergeThenMove_sound {s : State} {ch : ChannelId} (h : SoundBut (some ch) s) {op : Op}
    (hbusy : (s.ch ch).state = .busy op) (hprint : op.kind.isPrint = true)
    (hpaper : (s.ch ch).paper.isSome = true) {strikes : List Strike} (hstrikes : StrikesOk strikes)
    (hfree : s.cellsNeeded ch strikes ≤ s.freeCells) :
    Sound (some ch) none s (tryMove ch (mergeLine ch strikes s)) := by
  obtain ⟨p, hp⟩ := Option.isSome_iff_exists.mp hpaper
  have hmerge := mergeLine_sound h hbusy hp hstrikes hfree
  obtain ⟨hstate, hstruck⟩ := mergeLine_state hbusy hp strikes
  exact hmerge.trans (tryMove_sound hmerge.chans hstate (mergedLine_ok hprint (by rw [hstruck]; rfl)) rfl)

theorem retryLines_sound (l : List ChannelId) {s : State} (h : SoundBut none s) :
    Sound none none s (retryLines l s) := by
  induction l generalizing s with
  | nil => exact .refl h
  | cons ch rest ih =>
    unfold retryLines
    split
    · exact .refl h
    next strikes hwaits =>
      split
      next hfree =>
        obtain ⟨op, hbusy, hstage⟩ := op_of_waitingStrikes hwaits
        obtain ⟨hprint, hpaper, _, hstrikes⟩ := (h.opOk hbusy).placing hstage
        have htake : Sound none (some ch) s { s with cellWait := s.cellWait.erase ch } := by
          refine .takeUp h ch rfl rfl rfl rfl (fun hs => ?_) (fun hs => ?_)
          · exact ⟨hs.cellNodup.erase ch, fun i => hs.cellNodup.mem_erase_iff⟩
          · refine ⟨hs.roomNodup, fun x => ⟨fun hx => ⟨?_, hx⟩, And.right⟩⟩
            rintro rfl
            rw [hs.moves, inMoving_iff, hbusy] at hx
            simp [ChState.isMoving, hstage] at hx
        have hmove := mergeThenMove_sound htake.chans hbusy hprint hpaper hstrikes hfree
        exact (htake.trans hmove).trans (ih (htake.trans hmove).chans)
      next => exact .refl h

theorem retryWaiting_sound {s : State} (h : SoundBut none s) : Sound none none s (retryWaiting s) :=
  retryLines_sound _ h

theorem forceIfDry_sound {s : State} (h : SoundBut none s) : Sound none none s (forceIfDry s) := by
  unfold forceIfDry
  split
  next ch _ _ hempty =>
    have hbreak := forcedBreak_sound h ch hempty
    dsimp only
    split
    · exact hbreak.trans (retryWaiting_sound hbreak.chans)
    · exact hbreak
  next => exact .refl h

theorem afterFreeing_sound {s : State} (h : SoundBut none s) : Sound none none s (afterFreeing s) :=
  have hretry := retryWaiting_sound h
  hretry.trans (forceIfDry_sound hretry.chans)

theorem settleFrom_sound (before : Nat) {s : State} (h : SoundBut none s) :
    Sound none none s (settleFrom before s) := by
  unfold settleFrom
  split
  · exact afterFreeing_sound h
  · exact .refl h

theorem moveOn_sound {s : State} {ch : ChannelId} (h : SoundBut (some ch) s) {op : Op}
    (hbusy : (s.ch ch).state = .busy op) (hop : OpOk (s.ch ch) op) {held : Option Tape}
    (hstage : op.stage = .moving held) : Sound (some ch) none s (moveOn ch s) :=
  have hmove := tryMove_sound h hbusy hop hstage
  hmove.trans (settleFrom_sound _ hmove.chans)

theorem endOp_sound {s : State} {ch : ChannelId} (h : SoundBut (some ch) s) {op : Op}
    (hbusy : (s.ch ch).state = .busy op) (out : OpOutcome) : Sound (some ch) none s (endOp ch out s) :=
  have hend := complete_sound h hbusy out
  hend.trans (settleFrom_sound _ hend.chans)

theorem joinCells_sound {s : State} {ch : ChannelId} (h : SoundBut (some ch) s) {op : Op}
    (hbusy : (s.ch ch).state = .busy op) (hop : OpOk (s.ch ch) op) {strikes : List Strike}
    (hstage : op.stage = .placing strikes) : Sound (some ch) none s (joinCells ch s) := by
  have hplacing : (s.ch ch).state.isPlacing = true := by simp [hbusy, ChState.isPlacing, hstage]
  have hmoving : (s.ch ch).state.isMoving = false := by simp [hbusy, ChState.isMoving, hstage]
  have hjoin : Sound (some ch) none s { s with cellWait := s.cellWait ++ [ch] } := by
    refine .putDown h (opFits_of_busy hbusy hop) rfl rfl rfl rfl (fun hs => ?_)
      (fun hs => ⟨hs.roomNodup, by simp [hmoving]⟩)
    refine ⟨List.nodup_append.mpr ⟨hs.cellNodup, List.nodup_singleton _, fun a ha b hb => ?_⟩,
      fun i => by simp [hplacing]⟩
    rw [List.mem_singleton.mp hb]
    rintro rfl
    exact ((hs.lines a).mp ha).1 rfl
  exact hjoin.trans (forceIfDry_sound hjoin.chans)

theorem placeLineNow_sound {s : State} {ch : ChannelId} (h : SoundBut (some ch) s) {op : Op}
    (hbusy : (s.ch ch).state = .busy op) (hop : OpOk (s.ch ch) op) {strikes : List Strike}
    (hstage : op.stage = .placing strikes) : Sound (some ch) none s (placeLineNow ch strikes s) := by
  obtain ⟨hprint, hpaper, _, hstrikes⟩ := hop.placing hstage
  unfold placeLineNow
  dsimp only
  split
  next hroom =>
    have hmove := mergeThenMove_sound h hbusy hprint hpaper hstrikes (by omega)
    exact hmove.trans (settleFrom_sound _ hmove.chans)
  next => exact joinCells_sound h hbusy hop hstage

/-! ### Fetch places (R28, R130) -/

theorem giveListed_sound {s : State} (h : SoundBut none s) (req : Requester) :
    Sound none none s (s.giveListed req) := by
  unfold State.giveListed
  split
  · split
    next op hbusy =>
      have hop := h.opOk hbusy
      split
      next r hstage =>
        obtain ⟨hkind, hpaper, hplaced⟩ := hop.takingLine hstage
        exact restage_sound h hbusy (st := .takingLine _) ⟨hkind, hpaper, hplaced⟩
          (by simp [ChState.isPlacing, ChState.isMoving, hstage])
          ⟨rfl, rfl⟩
      next r hstage =>
        obtain ⟨hkind, hlength⟩ := hop.takingTape hstage
        exact restage_sound h hbusy (st := .takingTape _) ⟨hkind, hlength⟩
          (by simp [ChState.isPlacing, ChState.isMoving, hstage])
          ⟨rfl, rfl⟩
      next => exact .refl h
    next => exact .refl h
  · split
    · exact .of_eq h rfl rfl rfl rfl rfl rfl
    · exact .refl h
  · exact .refl h

theorem grantPlace_printSound {s : State} (h : SoundBut none s) : Sound none none s (grantPlace s) := by
  unfold grantPlace
  split
  · exact .refl h
  next req rest _ =>
    split
    · exact .of_eq h rfl rfl rfl rfl rfl rfl
    · have hgive := giveListed_sound h req
      exact hgive.trans (.of_eq hgive.chans rfl rfl rfl rfl rfl rfl)

theorem grantPlaces_printSound (n : Nat) {s : State} (h : SoundBut none s) :
    Sound none none s (grantPlaces n s) := by
  induction n generalizing s with
  | zero => exact .refl h
  | succ n ih =>
    have hgrant := grantPlace_printSound h
    exact hgrant.trans (ih hgrant.chans)

theorem askPlaces_sound {s : State} (h : SoundBut none s) (req : Requester) :
    Sound none none s (askPlaces req s) := by
  unfold askPlaces
  split
  · exact .refl h
  · split
    · have hask : Sound none none s { s with placeWait := [req] } := .of_eq h rfl rfl rfl rfl rfl rfl
      exact hask.trans (grantPlaces_printSound _ hask.chans)
    · exact .of_eq h rfl rfl rfl rfl rfl rfl

/-! ### Taking a line (R24 to R37) -/

/-- The strike list handed on has its columns in strictly ascending order on the form (R36, R37). -/
theorem keptStrikes_ok (policy : Policy) (subst : Glyph) (shift : Int) (r : LineRec)
    (table : List TransEntry) (n : Nat) :
    StrikesOk (keptStrikes (shiftedStrikes policy subst shift (r.positions table n))) := by
  have hpositions : (r.positions table n).Pairwise fun a b => a.1 < b.1 := by
    unfold LineRec.positions
    rw [List.pairwise_map]
    exact List.pairwise_lt_range.imp fun hab => Nat.add_lt_add_right hab 1
  have hshifted : (shiftedStrikes policy subst shift (r.positions table n)).Pairwise
      fun a b => a.1 < b.1 := by
    unfold shiftedStrikes
    refine hpositions.filterMap _ fun a b hab x hx y hy => ?_
    obtain ⟨_, _, rfl⟩ := Option.map_eq_some_iff.mp hx
    obtain ⟨_, _, rfl⟩ := Option.map_eq_some_iff.mp hy
    dsimp only
    omega
  have hon : ∀ k : Int × Glyph, onForm k.1 = true ↔ 0 ≤ k.1 ∧ k.1 < 160 := fun k => by simp [onForm]
  refine ⟨?_, fun k hk => ?_⟩
  · unfold keptStrikes
    rw [List.pairwise_map]
    refine (hshifted.filter _).imp_of_mem fun {a b} ha hb hab => ?_
    have hleft := (hon a).mp (List.mem_filter.mp ha).2
    have hright := (hon b).mp (List.mem_filter.mp hb).2
    dsimp only
    omega
  · obtain ⟨a, ha, rfl⟩ := List.mem_map.mp hk
    have hcol := (hon a).mp (List.mem_filter.mp ha).2
    change a.1.toNat < 160
    omega

/-- A print operation whose line is not placed, on a channel with a tape. -/
structure Printing (c : Channel) (op : Op) : Prop where
  busy : c.state = .busy op
  kind : op.kind.isPrint = true
  paper : c.paper.isSome = true
  unplaced : op.linePlaced = false

/-- The counters that TAKING raises leave the channel's body alone. -/
theorem Printing.of_body {c d : Channel} {op : Op} (h : Printing c op) (hbody : SameBody c d) :
    Printing d op :=
  ⟨hbody.state.trans h.busy, h.kind, by rw [hbody.paper]; exact h.paper, h.unplaced⟩

/-- A strike list is handed on to PLACING, with the counters of the line (R36, R37). -/
theorem handOn_sound {s : State} {ch : ChannelId} (h : SoundBut (some ch) s) {op : Op}
    (hop : Printing (s.ch ch) op) {f : Channel → Channel} (hf : SameBody (s.ch ch) (f (s.ch ch)))
    {strikes : List Strike} (hstrikes : StrikesOk strikes) :
    Sound (some ch) none s (placeLineNow ch strikes ((s.modCh ch f).setStage ch (.placing strikes))) := by
  have hcount := Sound.registers h hf
  have hop' : Printing ((s.modCh ch f).ch ch) op := by
    rw [State.ch_modCh_same]
    exact hop.of_body hf
  have hstage := setStage_sound hcount.chans hop'.busy (.placing strikes)
  refine (hcount.trans hstage).trans (placeLineNow_sound hstage.chans (by rw [setStage_ch hop'.busy]) ?_ rfl)
  rw [setStage_ch hop'.busy]
  exact ⟨hop'.kind, hop'.paper, hop'.unplaced, hstrikes⟩

theorem endLine_sound {s : State} {ch : ChannelId} (h : SoundBut (some ch) s) {op : Op}
    (hop : Printing (s.ch ch) op) (r : LineRec) : Sound (some ch) none s (endLine ch r s) := by
  unfold endLine
  dsimp only
  have hcount := Sound.registers h (ch := ch)
    (f := fun c => { c with
      unprintable := satAdd c.unprintable ((r.positions s.setup.translation (r.length.getD 0)).countP
        fun x => decide (x.2 = .unprintable)) })
    ⟨rfl, rfl, rfl, rfl, rfl⟩
  split
  · exact hcount.trans (endOp_sound hcount.chans (by rw [State.ch_modCh_same]; exact hop.busy) _)
  · refine hcount.trans ?_
    refine handOn_sound hcount.chans (op := op) ?_ ⟨rfl, rfl, rfl, rfl, rfl⟩ (keptStrikes_ok ..)
    rw [State.ch_modCh_same]
    exact hop.of_body ⟨rfl, rfl, rfl, rfl, rfl⟩

theorem goOnLine_sound {s : State} {ch : ChannelId} (h : SoundBut (some ch) s) {op : Op}
    (hop : Printing (s.ch ch) op) (r : LineRec) : Sound (some ch) none s (goOnLine ch r s) := by
  unfold goOnLine
  split
  · exact endLine_sound h hop r
  · have hstage := putTaking_sound h hop.busy (st := .takingLine r) ⟨hop.kind, hop.paper, hop.unplaced⟩ rfl rfl
    exact hstage.trans (askPlaces_sound hstage.chans _)

theorem deliverLine_sound {s : State} {ch : ChannelId} (h : SoundBut (some ch) s) {op : Op}
    (hop : Printing (s.ch ch) op) {r0 : LineRec} (hstage : op.stage = .takingLine r0) (r : LineRec)
    (dest : Dest) (hi lo : Option Byte) :
    Sound (some ch) none s (deliverLine ch op.vp r dest hi lo s) := by
  unfold deliverLine
  split
  · dsimp only
    split
    · exact goOnLine_sound h hop _
    · have hcount := Sound.registers h (ch := ch)
        (f := fun c => { c with damaged := satAdd c.damaged 1, unprintable := satAdd c.unprintable 1 })
        ⟨rfl, rfl, rfl, rfl, rfl⟩
      refine hcount.trans (goOnLine_sound hcount.chans (op := op) ?_ _)
      rw [State.ch_modCh_same]
      exact hop.of_body ⟨rfl, rfl, rfl, rfl, rfl⟩
  next w =>
    dsimp only
    have hcount := Sound.registers h (ch := ch)
      (f := fun c => { c with
        damaged := satAdd c.damaged (newlyDamaged (r.words.getD w TakenWord.absent)
          (decide (2 * w + 1 ≤ r.length.getD 0)) (decide (2 * w + 2 ≤ r.length.getD 0)) hi lo) })
      ⟨rfl, rfl, rfl, rfl, rfl⟩
    refine hcount.trans (goOnLine_sound hcount.chans (op := op) ?_ _)
    rw [State.ch_modCh_same]
    exact hop.of_body ⟨rfl, rfl, rfl, rfl, rfl⟩
  · refine .release h (opFits_of_busy hop.busy ?_) ?_ ?_
    · rw [OpOk, hstage]
      exact ⟨hop.kind, hop.paper, hop.unplaced⟩
    · simp [hop.busy, ChState.isPlacing, hstage]
    · simp [hop.busy, ChState.isMoving, hstage]

/-! ### Taking a tape (R42 to R47) -/

theorem tape_ok {n : Nat} (h : tapeLengthOk n = true) (r : TapeRec) : TapeOk (r.tape n) := by
  have hlength : (r.tape n).length = n := by simp [TapeRec.tape, Tape.length]
  rw [TapeOk, hlength]
  simpa [tapeLengthOk] using h

theorem goOnTape_sound {s : State} {ch : ChannelId} (h : SoundBut (some ch) s) {op : Op}
    (hbusy : (s.ch ch).state = .busy op) (hkind : op.kind = .loadTape) {r : TapeRec}
    (hlength : ∀ n ∈ r.length, tapeLengthOk n = true) : Sound (some ch) none s (goOnTape ch r s) := by
  have hask : Sound (some ch) none s (askPlaces (.operation ch) (s.setStage ch (.takingTape r))) := by
    have hstage := putTaking_sound h hbusy (st := .takingTape r) ⟨hkind, hlength⟩ rfl rfl
    exact hstage.trans (askPlaces_sound hstage.chans _)
  unfold goOnTape
  split
  next n hn =>
    split
    · have hstage := setStage_sound h hbusy (.moving (some (r.tape n)))
      refine hstage.trans (moveOn_sound hstage.chans (by rw [setStage_ch hbusy]) ?_ rfl)
      exact .inl ⟨hkind, _, rfl, tape_ok (hlength n hn) r⟩
    · exact hask
  · exact hask

theorem fixTape_sound {s : State} {ch : ChannelId} (h : SoundBut (some ch) s) {op : Op}
    (hbusy : (s.ch ch).state = .busy op) (hkind : op.kind = .loadTape) (v : Word) (r : TapeRec) :
    Sound (some ch) none s (fixTape ch v r s) := by
  unfold fixTape
  split
  next hok =>
    refine goOnTape_sound h hbusy hkind fun n hn => ?_
    cases hn
    exact hok
  · exact endOp_sound h hbusy _

theorem beginTape_sound {s : State} {ch : ChannelId} (h : SoundBut (some ch) s) {op : Op}
    (hbusy : (s.ch ch).state = .busy op) (hkind : op.kind = .loadTape) :
    Sound (some ch) none s (beginTape ch s) := by
  unfold beginTape
  dsimp only
  split
  · exact fixTape_sound h hbusy hkind _ _
  · exact goOnTape_sound h hbusy hkind nofun

theorem deliverTape_sound {s : State} {ch : ChannelId} (h : SoundBut (some ch) s) {op : Op}
    (hbusy : (s.ch ch).state = .busy op) {r : TapeRec} (hstage : op.stage = .takingTape r)
    (hop : OpOk (s.ch ch) op) (dest : Dest) (hi lo : Option Byte) :
    Sound (some ch) none s (deliverTape ch r dest hi lo s) := by
  obtain ⟨hkind, hlength⟩ := hop.takingTape hstage
  unfold deliverTape
  split
  · dsimp only
    split
    · split
      · exact fixTape_sound h hbusy hkind _ _
      · exact endOp_sound h hbusy _
    · exact goOnTape_sound h hbusy hkind hlength
  · refine .release h (opFits_of_busy hbusy hop) ?_ ?_
    · simp [hbusy, ChState.isPlacing, hstage]
    · simp [hbusy, ChState.isMoving, hstage]

/-! ### GOs (R8 to R10) -/

theorem refuseGo_sound {s : State} (h : SoundBut none s) (ch : ChannelId) :
    Sound none none s (refuseGo ch s) := .registers h ⟨rfl, rfl, rfl, rfl, rfl⟩

theorem cleared_state (c : Channel) :
    c.cleared.state = match c.state with
      | .halted => .idle
      | st => st := rfl

theorem goClear_sound {s : State} (h : SoundBut none s) (ch : ChannelId) :
    Sound none none s (goClear ch s) := by
  unfold goClear
  split
  · exact refuseGo_sound h ch
  · exact .refl h
  next hbusy hoffline =>
    have hquiet : (s.ch ch).state.op? = none ∧ (s.ch ch).cleared.state.op? = none ∧
        (s.ch ch).cleared.state ≠ .offline := by
      rw [cleared_state]
      cases hstate : (s.ch ch).state with
      | busy op => exact absurd hstate (hbusy op)
      | offline => exact absurd hstate hoffline
      | _ => exact ⟨rfl, rfl, nofun⟩
    obtain ⟨hwas, his, hbound⟩ := hquiet
    obtain ⟨_, h2, h3, h4⟩ := (h ch).1
    have hclear : Sound none none s (s.modCh ch Channel.cleared) :=
      restate_sound h hwas ⟨fun hoff => absurd hoff hbound, h2, h3, h4⟩ rfl rfl his
    dsimp only
    split
    · exact hclear
    · exact hclear.trans (requestTally_sound hclear.chans ch)

theorem goLoad_sound {s : State} (h : SoundBut none s) (ch : ChannelId) (ie : Bool) :
    Sound none none s (goLoad ch ie s) := by
  unfold goLoad
  split
  next hidle =>
    have hstart := startOp_sound h (ch := ch) (by rw [hidle]; rfl) (hostOp .loadTape false 0 ie)
    exact hstart.trans (beginTape_sound hstart.chans (by rw [startOp_ch_same]) rfl)
  · exact .refl h
  · exact refuseGo_sound h ch

theorem goMove_sound {s : State} (h : SoundBut none s) (ch : ChannelId) {kind : OpKind}
    (hkind : kind ≠ .loadTape) (vp : Bool) (count : Nat) (ie : Bool) :
    Sound none none s (goMove ch kind vp count ie s) := by
  unfold goMove
  split
  next hidle =>
    split
    next hok =>
      have hpaper : (s.ch ch).paper.isSome = true := (Bool.and_eq_true_iff.mp hok).1
      have hstart := startOp_sound h (ch := ch) (by rw [hidle]; rfl) (hostOp kind vp count ie)
      dsimp only
      split
      next hprint =>
        refine hstart.trans (goOnLine_sound hstart.chans (op := hostOp kind vp count ie) ?_ _)
        rw [startOp_ch_same]
        exact ⟨rfl, hprint, hpaper, rfl⟩
      next hprint =>
        refine hstart.trans (moveOn_sound hstart.chans (op := hostOp kind vp count ie)
          (by rw [startOp_ch_same]) ?_ rfl)
        rw [startOp_ch_same]
        exact .inr ⟨hkind, rfl, hpaper, by simpa [hostOp] using hprint⟩
    next => exact refuseGo_sound h ch
  · exact .refl h
  · exact refuseGo_sound h ch

theorem opKindOf_ne_loadTape (w : Word) : opKindOf w ≠ .loadTape := by
  unfold opKindOf
  repeat' split
  all_goals simp

theorem decodeGo_kind {w : Word} {kind : OpKind} {vp : Bool} {count : Nat} {ie : Bool}
    (h : decodeGo w = .move kind vp count ie) : kind ≠ .loadTape := by
  unfold decodeGo at h
  split_ifs at h
  cases h
  exact opKindOf_ne_loadTape w

theorem takeGo_sound {s : State} (h : SoundBut none s) (ch : ChannelId) (w : Word) :
    Sound none none s (takeGo ch w s) := by
  unfold takeGo
  split
  · exact goClear_sound h ch
  · exact goLoad_sound h ch _
  next hgo => exact goMove_sound h ch (decodeGo_kind hgo) _ _ _

theorem commandWrite_sound {s : State} (h : SoundBut none s) (ch : ChannelId) (w : BusWrite) :
    Sound none none s (commandWrite ch w s) := by
  have hmerge : Sound none none s (s.modCh ch fun c =>
      { c with merged := mergeBytes w (s.ch ch).merged, prevMerged := (s.ch ch).merged }) :=
    .registers h ⟨rfl, rfl, rfl, rfl, rfl⟩
  unfold commandWrite
  dsimp only
  split
  · exact hmerge.trans (takeGo_sound hmerge.chans ch _)
  · exact hmerge

/-! ### Run-out and claims (R77, R78, R100) -/

/-- The run-out action itself: the open form is broken when it holds cells, a pending sheet goes (R78). -/
def enterRunOut (ch : ChannelId) (s : State) : State :=
  releaseSheet ch (if (s.ch ch).holdsCells then breakForm ch s else s)

theorem takeRunOut_eq (ch : ChannelId) (s : State) :
    takeRunOut ch s = enterRunOut ch (s.modCh ch fun c => { c with runOutDue := false }) := by
  unfold takeRunOut enterRunOut
  rw [State.ch_modCh_same]
  rfl

/-- A sheet is pending after a break only when the break made no sheet enter. -/
theorem breakForm_pending {s : State} {ch : ChannelId} (hshape : ChannelShape (s.ch ch))
    (h : ((breakForm ch s).ch ch).pendSheet.isSome = true) : (breakForm ch s).queue = s.queue := by
  unfold breakForm at h ⊢
  split at h
  next => rfl
  next p hp =>
    unfold routeClose at h ⊢
    rw [State.ch_modCh_same] at h ⊢
    dsimp only at h ⊢
    split at h
    next htwo =>
      rw [if_pos htwo]
      split at h
      next => rfl
      next f0 hpend =>
        rw [enterQueue_ch_same, State.ch_modCh_same] at h
        cases h
    next hone =>
      rw [enterQueue_ch_same, State.ch_modCh_same] at h
      exact absurd (hshape.pending h).1 hone

theorem enterRunOut_sound {b : Option ChannelId} {s : State} (h : SoundBut b s) {ch : ChannelId}
    (hroom : (s.ch ch).runOutEnters = true → s.queue.length < 8) : Sound b b s (enterRunOut ch s) := by
  unfold enterRunOut
  split
  next hholds =>
    have hplace := hroom (by simp [Channel.runOutEnters, hholds])
    have hbreak := breakForm_sound h (ch := ch) fun _ => hplace
    exact hbreak.trans (releaseSheet_sound hbreak.chans fun hpend => by
      rw [breakForm_pending (h ch).1 hpend]; exact hplace)
  next => exact releaseSheet_sound h fun hpend => hroom (by simp [Channel.runOutEnters, hpend])

theorem takeClaim_runOut (ch : ChannelId) (s : State) :
    takeClaim (.runOut ch) s = enterRunOut ch (dropRunOut ch s) := takeRunOut_eq ..

theorem claimTakable_room {s : State} {ch : ChannelId} (h : claimTakable (.runOut ch) s = true)
    (henters : (s.ch ch).runOutEnters = true) : s.queue.length < 8 := by
  rw [← hasPlace_iff]
  simpa [claimTakable, henters] using h

theorem takeClaim_sound {s : State} (h : SoundBut none s) {x : Claim} (hx : claimTakable x s = true) :
    Sound none none s (takeClaim x s) := by
  cases x with
  | runOut ch =>
    have hdrop := dropRunOut_sound h ch
    rw [takeClaim_runOut]
    refine hdrop.trans (enterRunOut_sound hdrop.chans fun henters => ?_)
    rw [dropRunOut_ch_same] at henters
    exact claimTakable_room (s := s) hx henters
  | move ch =>
    have hfilter : WaitsBut none s → (s.roomWait.filter fun y => decide (y ≠ .move ch)).Nodup ∧
        ∀ y, y ∈ (s.roomWait.filter fun y => decide (y ≠ .move ch)) ↔ y ≠ .move ch ∧ y ∈ s.roomWait :=
      fun hs => ⟨hs.roomNodup.filter _, fun y => by simp [and_comm]⟩
    cases hmoving : (s.ch ch).state.isMoving with
    | true =>
      have htake : Sound none (some ch) s { s with roomWait := s.roomWait.filter fun y => decide (y ≠ .move ch) } := by
        refine .takeUp h ch rfl rfl rfl rfl (fun hs => ⟨hs.cellNodup, fun i => ⟨fun hi => ⟨?_, hi⟩, And.right⟩⟩) hfilter
        rintro rfl
        rw [hs.lines, waitingStrikes_isSome, not_isPlacing_of_isMoving hmoving] at hi
        cases hi.2
      obtain ⟨op, hop, held, hstage⟩ := (inMoving_iff _).mpr hmoving
      have hbusy : (s.ch ch).state = .busy op := by
        cases hstate : (s.ch ch).state with
        | busy o => rw [hstate] at hop; cases hop; rfl
        | _ => rw [hstate] at hop; cases hop
      exact htake.trans (tryMove_sound htake.chans hbusy (h.opOk hbusy) hstage)
    | false =>
      have hstays : tryMove ch { s with roomWait := s.roomWait.filter fun y => decide (y ≠ .move ch) } =
          { s with roomWait := s.roomWait.filter fun y => decide (y ≠ .move ch) } := by
        unfold tryMove
        split
        next op hbusy =>
          rw [show (s.ch ch).state = .busy op from hbusy] at hmoving
          split
          next hstage => simp [ChState.isMoving, hstage] at hmoving
          next => rfl
        next => rfl
      change Sound none none s (tryMove ch _)
      rw [hstays]
      refine ⟨h, rfl, ⟨[], .of_eq rfl rfl⟩, Nat.le_max_right .., fun hs => ?_⟩
      obtain ⟨hnodup, hmem⟩ := hfilter hs
      refine ⟨hs.cellNodup, hnodup, hs.lines, fun i => ?_, fun i => (hmem _).trans ?_⟩
      · refine (hmem _).trans (Iff.trans ?_ (hs.moves i))
        refine ⟨And.right, fun hi => ⟨?_, hi⟩⟩
        rintro ⟨⟩
        rw [hs.moves, inMoving_iff, hmoving] at hi
        cases hi.2
      · exact ⟨fun hi => (hs.runOuts i).mp hi.2, fun hi => ⟨nofun, (hs.runOuts i).mpr hi⟩⟩

theorem offerClaims_sound (l : List Claim) {s : State} (h : SoundBut none s) :
    Sound none none s (offerClaims l s) := by
  induction l generalizing s with
  | nil => exact .refl h
  | cons x rest ih =>
    unfold offerClaims
    split
    next hx =>
      have htake := takeClaim_sound h hx
      exact htake.trans (ih htake.chans)
    next => exact ih h

theorem offerPlace_sound {s : State} (h : SoundBut none s) : Sound none none s (offerPlace s) :=
  have hoffer := offerClaims_sound s.roomWait h
  hoffer.trans (settleFrom_sound _ hoffer.chans)

theorem claimAlone_sound {s : State} (h : SoundBut none s) {x : Claim} (hx : claimTakable x s = true) :
    Sound none none s (claimAlone x s) :=
  have htake := takeClaim_sound h hx
  htake.trans (settleFrom_sound _ htake.chans)

/-- A run-out action that comes due with the queue full is held due with its claim. -/
theorem joinRunOut_sound {s : State} (h : SoundBut none s) {ch : ChannelId}
    (hdue : (s.ch ch).runOutDue = false) (hoffline : (s.ch ch).state ≠ .offline) :
    Sound none none s (joinRoom (.runOut ch) (s.modCh ch fun c => { c with runOutDue := true })) := by
  have hchans : (joinRoom (.runOut ch) (s.modCh ch fun c => { c with runOutDue := true })).chans =
      (s.modCh ch fun c => { c with runOutDue := true }).chans := by
    unfold joinRoom
    split <;> rfl
  have hch : ∀ i, (joinRoom (.runOut ch) (s.modCh ch fun c => { c with runOutDue := true })).ch i =
      if i = ch then { s.ch i with runOutDue := true } else s.ch i := fun i => by
    rw [State.ch_congr hchans]
    by_cases hi : i = ch
    · subst hi
      rw [if_pos rfl, State.ch_modCh_same]
    · rw [if_neg hi, State.ch_modCh_other _ _ hi]
  have hrest : (joinRoom (.runOut ch) (s.modCh ch fun c => { c with runOutDue := true })).queue = s.queue ∧
      (joinRoom (.runOut ch) (s.modCh ch fun c => { c with runOutDue := true })).link = s.link ∧
      (joinRoom (.runOut ch) (s.modCh ch fun c => { c with runOutDue := true })).freeCells = s.freeCells ∧
      (joinRoom (.runOut ch) (s.modCh ch fun c => { c with runOutDue := true })).cellWait = s.cellWait := by
    unfold joinRoom
    split <;> exact ⟨rfl, rfl, rfl, rfl⟩
  obtain ⟨hqueue, hlink, hfree, hcell⟩ := hrest
  refine ⟨fun i => ?_, ?_, ⟨[], .of_eq hqueue hlink⟩, by rw [hqueue]; exact Nat.le_max_right .., fun hs => ?_⟩
  · rw [hch]
    split
    next hi =>
      subst hi
      obtain ⟨⟨_, h2, h3, h4⟩, hfits⟩ := h i
      exact ⟨⟨fun hoff => absurd hoff hoffline, h2, h3, h4⟩, fun hb => (hfits hb).of_paper (c := s.ch i) rfl id⟩
    next => exact h i
  · rw [cellsInAll_congr (s := s.modCh ch fun c => { c with runOutDue := true }) hfree hchans hqueue]
    exact Nat.add_right_cancel (m := (s.ch ch).ownCells) (cellsInAll_modCh s ch _)
  · have hout : Claim.runOut ch ∉ s.roomWait := by
      rw [hs.runOuts, hdue]
      nofun
    have hroom : (joinRoom (.runOut ch) (s.modCh ch fun c => { c with runOutDue := true })).roomWait =
        s.roomWait ++ [.runOut ch] := by
      unfold joinRoom
      rw [State.modCh_roomWait, if_neg (fun hin => hout (List.contains_iff_mem.mp hin))]
    have hstate : ∀ i, ((joinRoom (.runOut ch) (s.modCh ch fun c => { c with runOutDue := true })).ch i).state =
        (s.ch i).state := fun i => by
      rw [hch]
      split <;> rfl
    rw [waitsBut_iff] at hs ⊢
    obtain ⟨hcnodup, hrnodup, hlines, hmoves, hrunOuts⟩ := hs
    rw [hcell, hroom]
    refine ⟨hcnodup, ?_, fun i => by rw [hstate]; exact hlines i, fun i => ?_, fun i => ?_⟩
    · refine List.nodup_append.mpr ⟨hrnodup, List.nodup_singleton _, fun a ha b hb => ?_⟩
      rw [List.mem_singleton.mp hb]
      rintro rfl
      exact hout ha
    · rw [hstate, ← hmoves]
      simp
    · rw [hch]
      by_cases hi : i = ch
      · simp [hi]
      · simp [hi, hrunOuts]

/-! ### The tick of a channel (R153) -/

theorem tickStall_sound {s : State} (h : SoundBut none s) (ch : ChannelId) :
    Sound none none s (tickStall ch s) := by
  refine .registers h ?_
  split <;> exact ⟨rfl, rfl, rfl, rfl, rfl⟩

theorem runOutCounts_iff (c : Channel) :
    c.runOutCounts = true ↔ 0 < c.runOut ∧ c.state.isQuiet = true ∧ c.runOutDue = false ∧ c.runOutEnters = true := by
  simp [Channel.runOutCounts, and_assoc]

theorem tickRunOut_sound {s : State} (h : SoundBut none s) (ch : ChannelId) :
    Sound none none s (tickRunOut ch s) := by
  unfold tickRunOut
  split
  next hcounts =>
    obtain ⟨_, hquiet, hdue, henters⟩ := (runOutCounts_iff _).mp hcounts
    have hcount : Sound none none s (s.modCh ch fun c => { c with runOut := c.runOut - 1 }) :=
      .registers h ⟨rfl, rfl, rfl, rfl, rfl⟩
    dsimp only
    split
    · refine hcount.trans ?_
      have hdue' : ((s.modCh ch fun c => { c with runOut := c.runOut - 1 }).ch ch).runOutDue = false := by
        rw [State.ch_modCh_same]
        exact hdue
      have htry : Sound none none (s.modCh ch fun c => { c with runOut := c.runOut - 1 })
          (tryRunOut ch ((s.modCh ch fun c => { c with runOut := c.runOut - 1 }).modCh ch
            fun c => { c with runOutDue := true })) := by
        unfold tryRunOut
        split
        next hroom =>
          rw [takeRunOut_eq, State.modCh_modCh]
          have hreset := Sound.registers hcount.chans (ch := ch) (f := fun c => { c with runOutDue := false })
            ⟨rfl, hdue'.symm, rfl, rfl, rfl⟩
          refine hreset.trans (enterRunOut_sound hreset.chans fun _ => ?_)
          rw [State.ch_modCh_same, State.ch_modCh_same] at hroom
          have hplace : (!(s.ch ch).runOutEnters || s.hasPlace) = true := hroom
          rw [henters] at hplace
          exact (hasPlace_iff s).mp hplace
        next =>
          refine joinRunOut_sound hcount.chans hdue' ?_
          rw [State.ch_modCh_same]
          intro hoff
          rw [show (s.ch ch).state = .offline from hoff] at hquiet
          cases hquiet
      exact htry.trans (settleFrom_sound _ htry.chans)
    · exact hcount
  next => exact .refl h

theorem tickSample_sound {s : State} (h : SoundBut none s) (ch : ChannelId) :
    Sound none none s (tickSample ch s) := by
  unfold tickSample
  dsimp only
  split
  · have hsample : Sound none none s (s.modCh ch fun c => { c with prevSample := c.merged }) :=
      .registers h ⟨rfl, rfl, rfl, rfl, rfl⟩
    split
    · exact hsample.trans (takeGo_sound hsample.chans ch _)
    · exact hsample
  · exact .refl h

theorem channelTick_sound {s : State} (h : SoundBut none s) (ch : ChannelId) :
    Sound none none s (channelTick ch s) := by
  unfold channelTick
  split
  · exact .refl h
  · have hstall := tickStall_sound h ch
    have hrunOut := tickRunOut_sound hstall.chans ch
    exact (hstall.trans hrunOut).trans (tickSample_sound (hstall.trans hrunOut).chans ch)

end Sys2Proof.Machine
end

section
/-! SUPPORT. What every operation of the part keeps of the printing state, the link and the records with it (R61,
R68, R90, R97, R98, R100, R101 to R117, R143, R145, R149, R22). -/

namespace Sys2Proof.Machine

/-! ### What is kept -/

/-- What an operation keeps of the printing state, from a state with its channels in shape. -/
structure PrintHeld (s t : State) : Prop where
  chans : SoundBut none t
  cells : cellsInAll s = 24576 → cellsInAll t = 24576
  queue : QueueOk s → LinkFitsQueue s → QueueOk t ∧ LinkFitsQueue t
  waits : WaitsBut none s → WaitsBut none t

theorem PrintHeld.refl {s : State} (h : SoundBut none s) : PrintHeld s s := ⟨h, id, .intro, id⟩

theorem PrintHeld.trans {s t u : State} (h : PrintHeld s t) (k : PrintHeld t u) : PrintHeld s u :=
  ⟨k.chans, fun hs => k.cells (h.cells hs),
    fun hq hl => (h.queue hq hl).elim fun hq hl => k.queue hq hl, fun hs => k.waits (h.waits hs)⟩

theorem QueueGrows.queueOk {s t : State} {new : List Sheet} (h : QueueGrows s t new)
    (hlength : t.queue.length ≤ max 8 s.queue.length) (hs : QueueOk s) : QueueOk t := by
  obtain ⟨hle, hsheets⟩ := hs
  have height : s.queue.length ≤ 8 := hle
  refine ⟨show t.queue.length ≤ 8 by omega, fun sh hsh => ?_⟩
  rw [h.queue] at hsh
  exact (List.mem_append.mp hsh).elim (hsheets sh) fun hnew => (h.fresh sh hnew).1

theorem QueueGrows.linkFits {s t : State} {new : List Sheet} (h : QueueGrows s t new)
    (hs : LinkFitsQueue s) : LinkFitsQueue t := by
  obtain ⟨hidle, hworks, hwaits⟩ := hs
  have hhead : ∀ {n : Sheet → Prop}, (∃ sh ∈ s.queue.head?, n sh) → ∃ sh ∈ t.queue.head?, n sh := by
    rintro n ⟨sh, hsh, hn⟩
    refine ⟨sh, ?_, hn⟩
    rw [h.queue, List.head?_append_of_ne_nil]
    · exact hsh
    · rintro hnil
      rw [hnil] at hsh
      cases hsh
  obtain ⟨hlink, hstays⟩ | ⟨_, hempty, hnew, hlink⟩ := h.link
  · rw [LinkFitsQueue, hlink]
    refine ⟨fun hstate => ?_, fun hstate => hhead (hworks hstate), fun hstate => hhead (hwaits hstate)⟩
    have hnil := hidle hstate
    obtain hnew | hothers | hother := hstays
    · rw [h.queue, hnil, hnew]
      rfl
    · exact absurd hnil hothers
    · exact absurd hstate hother
  · rw [LinkFitsQueue, hlink]
    refine ⟨nofun, fun _ => ?_, nofun⟩
    rw [h.queue, hempty, List.nil_append]
    cases new with
    | nil => exact absurd rfl hnew
    | cons sh rest =>
      obtain ⟨_, hattempts⟩ := h.fresh sh List.mem_cons_self
      exact ⟨sh, rfl, by omega⟩

theorem Sound.held {s t : State} (h : Sound none none s t) : PrintHeld s t := by
  obtain ⟨new, hgrows⟩ := h.grows
  exact ⟨h.chans, fun hs => h.cells.trans hs,
    fun hq hl => ⟨hgrows.queueOk h.length hq, hgrows.linkFits hl⟩, h.waits⟩

/-- A change of what printing does not speak of. -/
theorem PrintHeld.of_eq {s t : State} (h : SoundBut none s) (hchans : t.chans = s.chans)
    (hfree : t.freeCells = s.freeCells) (hqueue : t.queue = s.queue) (hlink : t.link = s.link)
    (hcell : t.cellWait = s.cellWait) (hroom : t.roomWait = s.roomWait) : PrintHeld s t :=
  (Sound.of_eq h hchans hfree hqueue hlink hcell hroom).held

/-! ### The print link (R101 to R117) -/

/-- A change of the link controller and of attempts alone. -/
theorem PrintHeld.relinked {s t : State} (h : SoundBut none s) (hchans : t.chans = s.chans)
    (hfree : t.freeCells = s.freeCells) (hcell : t.cellWait = s.cellWait) (hroom : t.roomWait = s.roomWait)
    (hcounts : t.queue.map Sheet.cellCount = s.queue.map Sheet.cellCount)
    (hfits : QueueOk s → LinkFitsQueue s → QueueOk t ∧ LinkFitsQueue t) : PrintHeld s t := by
  have hch := State.ch_congr hchans
  refine ⟨fun i => by rw [hch]; exact h i, fun hs => ?_, hfits, fun hs => ?_⟩
  · rw [← hs]
    simp only [cellsInAll, heldCells_eq, hfree, hcounts, hch]
  · exact hs.congr hcell hroom fun i => by rw [hch]; exact ⟨fun _ => ⟨rfl, rfl⟩, rfl⟩

/-- A change of the link controller that keeps its state. -/
theorem PrintHeld.linkOnly {s : State} (h : SoundBut none s) {l : LinkCtl} (hl : l.state = s.link.state) :
    PrintHeld s { s with link := l } := by
  refine .relinked h rfl rfl rfl rfl rfl fun hq hf => ⟨hq, ?_⟩
  simp only [LinkFitsQueue, hl]
  exact hf

/-- A link that starts on the queue's head fits the queue (R106). -/
theorem linkFits_startSheet {s : State} (hs : QueueOk s) : LinkFitsQueue (startSheet s) := by
  unfold startSheet
  split
  next hempty => exact ⟨fun _ => hempty, by simp, nofun⟩
  next sh rest hqueue =>
    have hattempts : sh.attempts ≤ 16 := (hs.2 sh (by rw [hqueue]; exact List.mem_cons_self)).1
    split
    next hused =>
      refine ⟨nofun, by simp, fun _ => ⟨sh, by rw [hqueue]; rfl, hused⟩⟩
    next hleft =>
      have hne : sh.attempts ≠ 16 := hleft
      exact ⟨nofun, fun _ => ⟨sh, by rw [hqueue]; rfl, by omega⟩, nofun⟩

theorem startSheet_held {s : State} (h : SoundBut none s) : PrintHeld s (startSheet s) := by
  refine .relinked h (startSheet_chans s) (startSheet_freeCells s) (startSheet_cellWait s)
    (startSheet_roomWait s) (by rw [startSheet_queue]) fun hq _ => ⟨?_, linkFits_startSheet hq⟩
  rw [QueueOk, startSheet_queue]
  exact hq

theorem linkFits_of_no_sheet {t : State}
    (hstate : t.link.state = .down ∨ t.link.state = .training) : LinkFitsQueue t := by
  unfold LinkFitsQueue
  obtain hdown | htraining := hstate
  · rw [hdown]
    exact ⟨nofun, by simp, nofun⟩
  · rw [htraining]
    exact ⟨nofun, by simp, nofun⟩

theorem loseLink_held {s : State} (h : SoundBut none s) : PrintHeld s (loseLink s) :=
  .relinked h rfl rfl rfl rfl rfl fun hq _ => ⟨hq, linkFits_of_no_sheet (.inl rfl)⟩

theorem takeLife_held {s : State} (h : SoundBut none s) : PrintHeld s (takeLife s) := by
  unfold takeLife
  split
  · exact .relinked h rfl rfl rfl rfl rfl fun hq _ => ⟨hq, linkFits_of_no_sheet (.inr rfl)⟩
  · have hcount : PrintHeld s { s with link := { s.link with silence := 0, pulses := s.link.pulses + 1 } } :=
      .linkOnly h rfl
    dsimp only
    split
    · exact hcount.trans (startSheet_held hcount.chans)
    · exact hcount
  · exact .linkOnly h rfl

/-- The head with other attempts is the same sheet otherwise. -/
theorem setAttempts_queueOk {n : Nat} (hn : n ≤ 16) {s : State} (hs : QueueOk s) :
    QueueOk (setAttempts n s) := by
  unfold setAttempts
  split
  · exact hs
  next sh rest hqueue =>
    obtain ⟨hlength, hsheets⟩ := hs
    rw [hqueue] at hlength hsheets
    refine ⟨hlength, fun x hx => ?_⟩
    obtain rfl | hrest := List.mem_cons.mp hx
    · exact ⟨hn, (hsheets sh List.mem_cons_self).2⟩
    · exact hsheets x (List.mem_cons_of_mem _ hrest)

theorem setAttempts_counts (n : Nat) (s : State) :
    (setAttempts n s).queue.map Sheet.cellCount = s.queue.map Sheet.cellCount := by
  unfold setAttempts
  split
  · rfl
  next hqueue =>
    rw [hqueue]
    rfl

theorem setAttempts_rest (n : Nat) (s : State) :
    (setAttempts n s).chans = s.chans ∧ (setAttempts n s).freeCells = s.freeCells ∧
      (setAttempts n s).cellWait = s.cellWait ∧ (setAttempts n s).roomWait = s.roomWait := by
  unfold setAttempts
  split <;> exact ⟨rfl, rfl, rfl, rfl⟩

theorem head_setAttempts {n : Nat} {s : State} {sh : Sheet} {rest : List Sheet} (h : s.queue = sh :: rest) :
    (setAttempts n s).queue = { sh with attempts := n } :: rest := by
  rw [setAttempts, h]

/-- A failed attempt of a head sheet with attempts left (R113). -/
theorem failAttempt_held {s : State} (h : SoundBut none s) (hstate : s.link.state = .awaiting) :
    PrintHeld s (failAttempt s) := by
  unfold failAttempt
  split
  · exact .refl h
  next sh rest hqueue =>
    obtain ⟨hchans, hfree, hcell, hroom⟩ := setAttempts_rest (sh.attempts + 1) s
    have hcounts := setAttempts_counts (sh.attempts + 1) s
    have hhead := head_setAttempts (n := sh.attempts + 1) hqueue
    have hleft : LinkFitsQueue s → sh.attempts < 16 := fun hl => by
      obtain ⟨x, hx, hlt⟩ := hl.2.1 (by simp [hstate])
      rw [hqueue] at hx
      cases hx
      exact hlt
    dsimp only
    split
    next hlast =>
      refine .relinked h hchans hfree hcell hroom hcounts fun hq hl => ?_
      refine ⟨setAttempts_queueOk (by have := hleft hl; omega) hq, nofun, by simp, fun _ => ?_⟩
      exact ⟨_, by rw [show ({ setAttempts (sh.attempts + 1) s with link := _ } : State).queue = _ from hhead]; rfl,
        hlast⟩
    next hmore =>
      refine .relinked h hchans hfree hcell hroom hcounts fun hq hl => ?_
      have hlt := hleft hl
      have hne : sh.attempts + 1 ≠ 16 := hmore
      refine ⟨setAttempts_queueOk (by omega) hq, nofun, fun _ => ?_, nofun⟩
      exact ⟨_, by rw [show ({ setAttempts (sh.attempts + 1) s with link := _ } : State).queue = _ from hhead]; rfl,
        show sh.attempts + 1 < 16 by omega⟩

/-- A whole new emission of a head sheet with attempts left (R115). -/
theorem resendSheet_held {s : State} (h : SoundBut none s) (hstate : s.link.state = .backoff) :
    PrintHeld s (resendSheet s) := by
  unfold resendSheet
  split
  · exact .refl h
  · exact .relinked h rfl rfl rfl rfl rfl fun hq hl => ⟨hq, nofun, fun _ => hl.2.1 (by simp [hstate]), nofun⟩

/-- A released link starts on a head sheet with no attempt used (R117). -/
theorem startLink_held {s : State} (h : SoundBut none s) : PrintHeld s (startLink s) := by
  unfold startLink
  split
  · obtain ⟨hchans, hfree, hcell, hroom⟩ := setAttempts_rest 0 s
    refine .relinked h ((startSheet_chans _).trans hchans) ((startSheet_freeCells _).trans hfree)
      ((startSheet_cellWait _).trans hcell) ((startSheet_roomWait _).trans hroom)
      (by rw [startSheet_queue, setAttempts_counts]) fun hq _ => ?_
    have hq' := setAttempts_queueOk (Nat.zero_le 16) hq
    refine ⟨?_, linkFits_startSheet hq'⟩
    rw [QueueOk, startSheet_queue]
    exact hq'
  · exact .refl h

/-- The head sheet leaves: its place is offered, its cells are freed, and the link starts on the next (R101). -/
theorem leaveQueue_held {s : State} (h : SoundBut none s) : PrintHeld s (leaveQueue s) := by
  unfold leaveQueue
  split
  · exact .refl h
  next sh rest hqueue =>
    dsimp only
    have hleft : SoundBut none { s with queue := rest, link := { s.link with replyTimer := 0 } } := h
    have hoffer := offerPlace_sound hleft
    generalize offerPlace { s with queue := rest, link := { s.link with replyTimer := 0 } } = s1 at hoffer ⊢
    have hretry := afterFreeing_sound
      (show SoundBut none { s1 with freeCells := s1.freeCells + sh.cellCount } from hoffer.chans)
    refine PrintHeld.trans (t := startSheet _) ⟨?_, fun hs => ?_, fun hq _ => ?_, fun hs => ?_⟩
      (.refl (startSheet_held hretry.chans).chans)
    · exact (startSheet_held hretry.chans).chans
    · refine (startSheet_held hretry.chans).cells (hretry.cells.trans (Eq.trans ?_ hs))
      have hcells := hoffer.cells
      have hheld : heldCells s =
          heldCells { s with queue := rest, link := { s.link with replyTimer := 0 } } + sh.cellCount := by
        have hch := State.ch_congr (s := { s with queue := rest, link := { s.link with replyTimer := 0 } })
          (t := s) rfl
        simp only [heldCells_eq, hqueue, hch, List.map_cons, List.sum_cons]
        omega
      change s1.freeCells + sh.cellCount + heldCells s1 = s.freeCells + heldCells s
      change s1.freeCells + heldCells s1 = s.freeCells + heldCells _ at hcells
      omega
    · obtain ⟨_, hgrown⟩ := hoffer.grows
      obtain ⟨_, hmore⟩ := hretry.grows
      have hrest : QueueOk { s with queue := rest, link := { s.link with replyTimer := 0 } } := by
        obtain ⟨hlength, hsheets⟩ := hq
        rw [hqueue] at hlength hsheets
        exact ⟨Nat.le_of_succ_le hlength, fun x hx => hsheets x (List.mem_cons_of_mem _ hx)⟩
      have hlast := hmore.queueOk hretry.length (hgrown.queueOk hoffer.length hrest)
      refine ⟨?_, linkFits_startSheet hlast⟩
      rw [QueueOk, startSheet_queue]
      exact hlast
    · exact (startSheet_held hretry.chans).waits (hretry.waits
        ((hoffer.waits (hs.congr rfl rfl fun _ => ⟨fun _ => ⟨rfl, rfl⟩, rfl⟩)).congr rfl rfl
          fun _ => ⟨fun _ => ⟨rfl, rfl⟩, rfl⟩))

theorem ignoreReply_held {s : State} (h : SoundBut none s) : PrintHeld s (ignoreReply s) := .linkOnly h rfl

theorem acceptSheet_held {s : State} (h : SoundBut none s) (sh : Sheet) : PrintHeld s (acceptSheet sh s) := by
  have hcount : Sound none none s
      (s.modCh sh.channel fun c => { c with sheetsAccepted := satAdd c.sheetsAccepted 1 }) :=
    .registers h ⟨rfl, rfl, rfl, rfl, rfl⟩
  have hlink := PrintHeld.linkOnly hcount.chans
    (l := { s.link with accepted := satAdd s.link.accepted 1 }) rfl
  exact (hcount.held.trans hlink).trans (leaveQueue_held hlink.chans)

theorem rejectSheet_held {s : State} (h : SoundBut none s) (sh : Sheet) : PrintHeld s (rejectSheet sh s) := by
  have hcheck : Sound none none s
      (s.modCh sh.channel fun c => if c.state.isOffline then c else { c with check := true }) :=
    .registers h (by split <;> exact ⟨rfl, rfl, rfl, rfl, rfl⟩)
  have hlink := PrintHeld.linkOnly hcheck.chans
    (l := { s.link with rejected := satAdd s.link.rejected 1 }) rfl
  exact (hcheck.held.trans hlink).trans (leaveQueue_held hlink.chans)

theorem takeReply_held {s : State} (h : SoundBut none s) (kind : ReplyKind) (number : Word) :
    PrintHeld s (takeReply kind number s) := by
  unfold takeReply
  split
  next hstate _ =>
    split
    · split
      · exact acceptSheet_held h _
      · exact rejectSheet_held h _
      · exact failAttempt_held h hstate
      · exact .refl h
    · exact ignoreReply_held h
  next => exact ignoreReply_held h

theorem takeFrame_held {s : State} (h : SoundBut none s) (kind : ReplyKind) (payload : List Byte) :
    PrintHeld s (takeFrame kind payload s) := by
  have hlife := takeLife_held h
  unfold takeFrame
  dsimp only
  split
  · exact hlife
  · exact hlife.trans (takeReply_held hlife.chans _ _)

theorem receiveByte_held {s : State} (h : SoundBut none s) (b : Byte) : PrintHeld s (receiveByte s b) := by
  have hset : ∀ r, PrintHeld s (setReceiver r s) := fun r => .linkOnly h rfl
  have hbad : ∀ r, PrintHeld s (countBadFrame (setReceiver r s)) := fun r => .linkOnly h rfl
  unfold receiveByte
  split
  · split
    · exact hset _
    · exact hset _
  · unfold receiveInFrame
    split
    · exact hset _
    · split
      · exact hbad _
      · split
        · exact hset _
        · split
          · exact (hset _).trans (takeFrame_held (hset _).chans _ _)
          · exact hbad _

theorem receive_held (bytes : List Byte) {s : State} (h : SoundBut none s) : PrintHeld s (receive bytes s) := by
  induction bytes generalizing s with
  | nil => exact .refl h
  | cons b bytes ih =>
    have hbyte := receiveByte_held h b
    rw [receive_cons]
    exact hbyte.trans (ih hbyte.chans)

theorem sendRow_held {s : State} (h : SoundBut none s) : PrintHeld s (sendRow s) := by
  unfold sendRow
  split
  · split
    · exact .trans (t := { s with link := { s.link with rowsSent := s.link.rowsSent + 1 } }) (.linkOnly h rfl)
        (.of_eq h rfl rfl rfl rfl rfl rfl)
    · exact .refl h
  · exact .refl h

theorem sendEnd_held {s : State} (h : SoundBut none s) : PrintHeld s (sendEnd s) := by
  unfold sendEnd
  split
  next hstate _ =>
    split
    · exact .relinked h rfl rfl rfl rfl rfl fun hq hl => ⟨hq, nofun, fun _ => hl.2.1 (by simp [hstate]), nofun⟩
    · exact .refl h
  · exact .refl h

theorem tickLink_held {s : State} (h : SoundBut none s) : PrintHeld s (tickLink s) := by
  unfold tickLink
  split
  · exact .refl h
  · split
    · exact loseLink_held h
    · dsimp only
      split
      next hstate =>
        have hcount : PrintHeld s { s with link := { s.link with
            silence := s.link.silence + 1, replyTimer := s.link.replyTimer - 1 } } := .linkOnly h rfl
        split
        · exact hcount.trans (failAttempt_held hcount.chans hstate)
        · exact hcount
      next hstate =>
        have hcount : PrintHeld s { s with link := { s.link with
            silence := s.link.silence + 1, backoffTimer := s.link.backoffTimer - 1 } } := .linkOnly h rfl
        split
        · exact hcount.trans (resendSheet_held hcount.chans hstate)
        · exact hcount
      next => exact .linkOnly h rfl

/-! ### The panel (R155 to R160) -/

theorem stopChannel_sound {s : State} (h : SoundBut none s) (ch : ChannelId) :
    Sound none none s (stopChannel ch s) := by
  unfold stopChannel
  cases hstate : (s.ch ch).state with
  | idle =>
    obtain ⟨_, h2, h3, h4⟩ := (h ch).1
    refine restate_sound h (by rw [hstate]; rfl) ?_ ?_ ?_ ?_
    all_goals simp only [hstate]
    · exact ⟨nofun, h2, h3, h4⟩
    · rfl
    · rfl
  | busy op => exact .registers h (by rw [hstate]; exact ⟨hstate.symm, rfl, rfl, rfl, rfl⟩)
  | _ => exact .registers h (by rw [hstate]; exact ⟨rfl, rfl, rfl, rfl, rfl⟩)

theorem startChannel_sound {s : State} (h : SoundBut none s) (ch : ChannelId) :
    Sound none none s (startChannel ch s) := by
  unfold startChannel
  cases hstate : (s.ch ch).state with
  | stopped =>
    obtain ⟨_, h2, h3, h4⟩ := (h ch).1
    refine restate_sound h (by rw [hstate]; rfl) ?_ ?_ ?_ ?_
    all_goals simp only [hstate]
    · exact ⟨nofun, h2, h3, h4⟩
    · rfl
    · rfl
  | busy op => exact .registers h (by rw [hstate]; exact ⟨hstate.symm, rfl, rfl, rfl, rfl⟩)
  | _ => exact .registers h (by rw [hstate]; exact ⟨rfl, rfl, rfl, rfl, rfl⟩)

theorem ejectChannel_sound {s : State} (h : SoundBut none s) (ch : ChannelId) :
    Sound none none s (ejectChannel ch s) := by
  unfold ejectChannel
  split
  next hstate =>
    split
    next hmoves =>
      have heject := startEject_sound h (by rw [hstate]; rfl) hmoves
      exact heject.trans (settleFrom_sound _ heject.chans)
    next => exact .refl h
  next hstate =>
    split
    next hmoves =>
      have hstop : Sound none none s (s.modCh ch fun c => { c with pendStop := true }) :=
        .registers h ⟨rfl, rfl, rfl, rfl, rfl⟩
      have heject := startEject_sound hstop.chans (ch := ch)
        (by rw [State.ch_modCh_same]; simp [hstate, ChState.op?]) (by rw [State.ch_modCh_same]; exact hmoves)
      exact (hstop.trans heject).trans (settleFrom_sound _ heject.chans)
    next => exact .refl h
  next => exact .registers h ⟨rfl, rfl, rfl, rfl, rfl⟩
  next => exact .refl h

/-! ### Setup records (R83, R84, R143 to R149) -/

theorem setResult_held {s : State} (h : SoundBut none s) (code : ResultCode) :
    PrintHeld s (setResult code s) := .of_eq h rfl rfl rfl rfl rfl rfl

theorem bound_body {c : Channel} (x : ChannelRecord) (h : c.state ≠ .offline) : SameBody c (c.bound x) := by
  unfold Channel.bound
  dsimp only
  split
  next hoff => exact absurd hoff h
  next => exact ⟨rfl, rfl, rfl, rfl, rfl⟩

theorem boundChannel_sound {s : State} (h : SoundBut none s) (x : ChannelRecord) (ch : ChannelId) :
    Sound none none s (s.modCh ch fun c => c.bound x) := by
  by_cases hoff : (s.ch ch).state = .offline
  · obtain ⟨h1, _, _, _⟩ := (h ch).1
    obtain ⟨hpaper, hsheet, hdue⟩ := h1 hoff
    refine restate_sound h (by rw [hoff]; rfl) ?_ ?_ ?_ ?_
    all_goals simp only [Channel.bound, hoff]
    · exact ⟨nofun, by simp [hsheet], nofun, by simp [hsheet]⟩
    · simp [Channel.ownCells, Channel.openCells, hpaper]
    · rfl
  · exact .registers h (bound_body x hoff)

theorem applyChannel_held {s : State} (h : SoundBut none s) (r : ApplyRec) :
    PrintHeld s (applyChannel r s) := by
  unfold applyChannel
  split
  · exact setResult_held h _
  next x _ =>
    split
    · exact setResult_held h _
    · split
      · exact setResult_held h _
      · have hbind : PrintHeld s (bindWindows x s) := .of_eq h rfl rfl rfl rfl rfl rfl
        have hbound := boundChannel_sound hbind.chans x x.target
        exact (hbind.trans hbound.held).trans (setResult_held hbound.chans _)

theorem releaseSheet_pendSheet (ch : ChannelId) (s : State) :
    ((releaseSheet ch s).ch ch).pendSheet = none := by
  unfold releaseSheet
  split
  · assumption
  · rw [enterQueue_ch_same, State.ch_modCh_same]

theorem layoutChange_sound {s : State} (h : SoundBut none s) {ch : ChannelId} {l : Layout}
    (hfits : (s.ch ch).pendSheet.isSome = true → l.geo.twoUp = true) :
    Sound none none s (s.modCh ch fun c => { c with layout := l, runOut := l.runOut }) := by
  obtain ⟨h1, h2, h3, h4⟩ := (h ch).1
  exact .modCh h ⟨⟨h1, fun hs => ⟨hfits hs, (h2 hs).2⟩, h3, h4⟩, rfl, rfl, fun hop => hop.of_paper (c := s.ch ch) rfl id⟩
    rfl

theorem applyLayout_held {s : State} (h : SoundBut none s) (r : ApplyRec) :
    PrintHeld s (applyLayout r s) := by
  unfold applyLayout
  split
  · exact setResult_held h _
  next ch l _ =>
    split
    · exact setResult_held h _
    next hplace =>
      dsimp only
      have hreplace : ∀ s1, Sound none none s s1 → ((s1.ch ch).pendSheet.isSome = true → l.geo.twoUp = true) →
          PrintHeld s (setResult .done (settleFrom s.freeCells
            (dropRunOut ch (s1.modCh ch fun c => { c with layout := l, runOut := l.runOut })))) := by
        intro s1 hs1 hfits
        have hchange := layoutChange_sound hs1.chans hfits
        have hdrop := dropRunOut_sound hchange.chans ch
        have hsettle := settleFrom_sound s.freeCells hdrop.chans
        exact (((hs1.trans hchange).trans hdrop).trans hsettle).held.trans (setResult_held hsettle.chans _)
      split
      next hreleases =>
        refine hreplace _ (releaseSheet_sound h fun _ => ?_) (by rw [releaseSheet_pendSheet]; nofun)
        rw [← hasPlace_iff]
        simpa [hreleases] using hplace
      next hstays =>
        refine hreplace s (.refl h) fun hsome => ?_
        have htwo := ((h ch).1.pending hsome).1
        simpa [layoutReleases, htwo, hsome] using hstays

/-! ### DISABLE (R79, R149) -/

/-- The channel's forms are gone: its tape with the open form, and the pending sheet (R41, R79). -/
def Channel.emptied (c : Channel) : Channel := { c with paper := none, pendSheet := none }

/-- The disposal leaves no form: what held cells makes one sheet that enters, or nothing held any. -/
theorem disposeForms_cases {s : State} {ch : ChannelId} (hshape : ChannelShape (s.ch ch)) :
    (disposeForms ch s = s.modCh ch Channel.emptied ∧ (s.ch ch).ownCells = 0) ∨
      ∃ f0 f1, disposeForms ch s = enterQueue ch f0 f1 (s.modCh ch Channel.emptied) ∧
        (s.ch ch).ownCells = f0.cellCount + formCells f1 ∧ (s.ch ch).runOutEnters = true := by
  have hrelease : ∀ (t : State), (t.ch ch).pendSheet = none → releaseSheet ch t = t := by
    intro t ht
    unfold releaseSheet
    rw [ht]
  have hsame : ∀ {f : Channel → Channel}, f (s.ch ch) = Channel.emptied (s.ch ch) →
      s.modCh ch f = s.modCh ch Channel.emptied := fun hf => modCh_congr hf
  unfold disposeForms
  split
  next hpaper =>
    have hsheet : (s.ch ch).pendSheet = none := by
      by_contra hsome
      have := (hshape.pending (Option.isSome_iff_ne_none.mpr hsome)).2
      rw [hpaper] at this
      cases this
    refine .inl ⟨?_, by simp [Channel.ownCells, Channel.openCells, hpaper, hsheet, formCells]⟩
    rw [hrelease s hsheet, State.modCh, Channel.emptied, ← hpaper, ← hsheet, State.setCh_ch_self]
  next p hpaper =>
    have hopen := openCells_of_paper hpaper
    dsimp only
    split
    next hcells =>
      have hholds : (s.ch ch).runOutEnters = true := by
        simp [Channel.runOutEnters, Channel.holdsCells, hpaper, hcells]
      unfold routeClose
      rw [State.ch_modCh_same]
      dsimp only
      split
      next htwo =>
        split
        next hsheet =>
          refine .inr ⟨p.form, none, ?_, by simp [Channel.ownCells, hopen, hsheet, formCells], hholds⟩
          rw [State.modCh_modCh, releaseSheet, State.ch_modCh_same]
          dsimp only
          rw [State.modCh_modCh]
          exact congrArg _ (hsame rfl)
        next f0 hsheet =>
          refine .inr ⟨f0, some p.form, ?_, ?_, hholds⟩
          · rw [State.modCh_modCh, hrelease]
            · exact congrArg _ (hsame rfl)
            · rw [enterQueue_ch_same, State.ch_modCh_same]
          · rw [Channel.ownCells, hopen, hsheet]
            exact Nat.add_comm ..
      next hone =>
        have hsheet : (s.ch ch).pendSheet = none := by
          by_contra hsome
          exact hone (hshape.pending (Option.isSome_iff_ne_none.mpr hsome)).1
        refine .inr ⟨p.form, none, ?_, by simp [Channel.ownCells, hopen, hsheet, formCells], hholds⟩
        rw [hrelease]
        · exact congrArg _ (hsame (by rw [Channel.emptied, ← hsheet]))
        · rw [enterQueue_ch_same, State.ch_modCh_same]
          exact hsheet
    next hcells =>
      have hzero : p.form.cellCount = 0 := by omega
      cases hsheet : (s.ch ch).pendSheet with
      | none =>
        refine .inl ⟨?_, by simp [Channel.ownCells, hopen, hzero, hsheet, formCells]⟩
        rw [hrelease _ (by rw [State.ch_modCh_same]; exact hsheet)]
        exact hsame (by rw [Channel.emptied, ← hsheet])
      | some f0 =>
        refine .inr ⟨f0, none, ?_, by simp [Channel.ownCells, hopen, hzero, hsheet, formCells], ?_⟩
        · rw [releaseSheet, State.ch_modCh_same]
          dsimp only
          rw [hsheet]
          dsimp only
          rw [State.modCh_modCh]
          exact congrArg _ (hsame rfl)
        · simp [Channel.runOutEnters, hsheet]

theorem disposeForms_sound {s : State} (h : SoundBut none s) {ch : ChannelId}
    (hquiet : (s.ch ch).state.op? = none) (hroom : (s.ch ch).runOutEnters = true → s.queue.length < 8) :
    Sound none none s (disposeForms ch s) ∧ ((disposeForms ch s).ch ch).paper = none ∧
      ((disposeForms ch s).ch ch).pendSheet = none ∧
      ((disposeForms ch s).ch ch).state = (s.ch ch).state := by
  obtain ⟨h1, _, _, _⟩ := (h ch).1
  have hempty : Reshaped (s.ch ch) (s.ch ch).emptied :=
    ⟨⟨fun hoff => ⟨rfl, rfl, (h1 hoff).2.2⟩, nofun, nofun, nofun⟩, rfl, rfl,
      fun _ => opFits_of_op?_eq_none hquiet⟩
  obtain ⟨heq, hcells⟩ | ⟨f0, f1, heq, hcells, henters⟩ := disposeForms_cases (h ch).1
  · rw [heq, State.ch_modCh_same]
    exact ⟨.modCh h hempty hcells.symm, rfl, rfl, rfl⟩
  · rw [heq, enterQueue_ch_same, State.ch_modCh_same]
    refine ⟨.enter h hempty ?_ (hroom henters), rfl, rfl, rfl⟩
    rw [hcells]
    exact (congrArg (· + _) (Nat.zero_add _)).symm

theorem applyDisable_held {s : State} (h : SoundBut none s) (r : ApplyRec) :
    PrintHeld s (applyDisable r s) := by
  unfold applyDisable
  split
  · exact setResult_held h _
  next ch _ =>
    split
    · exact setResult_held h _
    · exact setResult_held h _
    next hoffline hbusy =>
      split
      · exact setResult_held h _
      next hplace =>
        have hquiet : (s.ch ch).state.op? = none := by
          cases hstate : (s.ch ch).state with
          | busy op => exact absurd hstate (hbusy op)
          | _ => rfl
        obtain ⟨hdispose, hpaper, hsheet, hstate⟩ := disposeForms_sound h hquiet fun henters => by
          rw [← hasPlace_iff]
          simpa [henters] using hplace
        have hdrop := dropRunOut_sound hdispose.chans ch
        have hdisable : Sound none none (dropRunOut ch (disposeForms ch s))
            ((dropRunOut ch (disposeForms ch s)).modCh ch Channel.disabled) := by
          refine restate_sound hdrop.chans ?_ ?_ ?_ ?_ rfl
          all_goals rw [dropRunOut_ch_same]
          · exact (congrArg ChState.op? hstate).trans hquiet
          · exact ⟨fun _ => ⟨hpaper, hsheet, rfl⟩, by simp [Channel.disabled, hsheet],
              by simp [Channel.disabled, hpaper], by simp [Channel.disabled, hsheet]⟩
          · rfl
          · rfl
        have hall := (hdispose.trans hdrop).trans hdisable
        have hunbind : Sound none none s
            (unbindWindows ch ((dropRunOut ch (disposeForms ch s)).modCh ch Channel.disabled)) :=
          hall.trans (.of_eq hall.chans rfl rfl rfl rfl rfl rfl)
        have hsettle := settleFrom_sound s.freeCells hunbind.chans
        exact (hunbind.trans hsettle).held.trans (setResult_held hsettle.chans _)

theorem applyRecord_held {s : State} (h : SoundBut none s) (r : ApplyRec) : PrintHeld s (applyRecord r s) := by
  unfold applyRecord
  split
  · exact setResult_held h _
  · split
    · exact setResult_held h _
    · split
      · exact applyChannel_held h r
      · exact applyLayout_held h r
      · unfold applyXlate
        repeat' split
        all_goals exact .of_eq h rfl rfl rfl rfl rfl rfl
      · unfold applyGlyph
        split <;> exact .of_eq h rfl rfl rfl rfl rfl rfl
      · unfold applyLink
        split
        · exact .trans (t := { s with link := { s.link with replyTimeout := r.num 2 } }) (.linkOnly h rfl)
            (.of_eq h rfl rfl rfl rfl rfl rfl)
        · exact setResult_held h _
      · exact applyDisable_held h r
      · unfold applyQuery
        split <;> exact .of_eq h rfl rfl rfl rfl rfl rfl

theorem goOnApply_held {s : State} (h : SoundBut none s) (r : ApplyRec) : PrintHeld s (goOnApply r s) := by
  unfold goOnApply
  split
  · have hover : PrintHeld s { s with setup := { s.setup with apply := none } } :=
      .of_eq h rfl rfl rfl rfl rfl rfl
    exact hover.trans (applyRecord_held hover.chans r)
  · have hkeep : Sound none none s { s with setup := { s.setup with apply := some r, result := .pending } } :=
      .of_eq h rfl rfl rfl rfl rfl rfl
    exact (hkeep.trans (askPlaces_sound hkeep.chans _)).held

theorem startApply_held {s : State} (h : SoundBut none s) : PrintHeld s (startApply s) := by
  unfold startApply
  split
  · exact .refl h
  · dsimp only
    split <;> exact goOnApply_held h _

theorem deliverRecord_held {s : State} (h : SoundBut none s) (i : Nat) (hi lo : Option Byte) :
    PrintHeld s (deliverRecord i hi lo s) := by
  unfold deliverRecord
  split
  · exact .refl h
  · dsimp only
    split <;> exact goOnApply_held h _

theorem setupWrite_held {s : State} (h : SoundBut none s) (k : Nat) : PrintHeld s (setupWrite k s) := by
  have hend : PrintHeld s { s with setup := { s.setup with answersPresent := false } } :=
    .of_eq h rfl rfl rfl rfl rfl rfl
  unfold setupWrite
  dsimp only
  split
  · exact hend.trans (startApply_held hend.chans)
  · exact hend

/-! ### Host cycles and own cycles (R120 to R135) -/

theorem presetTally_held {s : State} (h : SoundBut none s) (ch : ChannelId) (w : BusWrite) :
    PrintHeld s (presetTally ch w s) := by
  have hpreset : Sound none none s (s.modCh ch fun c => { c with tally := mergeBytes w c.tally }) :=
    .registers h ⟨rfl, rfl, rfl, rfl, rfl⟩
  unfold presetTally
  dsimp only
  split
  · exact hpreset.held.trans (.of_eq hpreset.chans rfl rfl rfl rfl rfl rfl)
  · split
    · exact hpreset.held.trans (.of_eq hpreset.chans rfl rfl rfl rfl rfl rfl)
    · exact hpreset.held

theorem writeTaken_held {s : State} (h : SoundBut none s) (w : BusWrite) (ans : WriteAnswer) :
    PrintHeld s (writeTaken w ans s) := by
  have hshadow : PrintHeld s (shadowWrite w ans s) := by
    unfold shadowWrite
    split <;> exact .of_eq h rfl rfl rfl rfl rfl rfl
  unfold writeTaken reportWrite
  split
  · exact hshadow.trans (commandWrite_sound hshadow.chans _ w).held
  · exact hshadow.trans (presetTally_held hshadow.chans _ w)
  · exact hshadow.trans (setupWrite_held hshadow.chans _)
  · exact hshadow

theorem reportRead_held {s : State} (h : SoundBut none s) (a : Addr) (ans : ReadAnswer) :
    PrintHeld s (reportRead a ans s) := by
  unfold reportRead
  split
  · split
    · exact (Sound.registers h ⟨rfl, rfl, rfl, rfl, rfl⟩).held
    · exact .refl h
  · exact .refl h

theorem passCycle_held {s : State} (h : SoundBut none s) (c : BusCycle) (ans : CycleAnswer) :
    PrintHeld s (passCycle c ans s) := by
  have hreply : ∀ r, PrintHeld s { giveMemory c s with hostReply := r } := fun _ =>
    .of_eq h rfl rfl rfl rfl rfl rfl
  unfold passCycle
  dsimp only
  split
  · exact (hreply _).trans (reportRead_held (hreply _).chans _ _)
  · exact (hreply _).trans (writeTaken_held (hreply _).chans _ _)
  next w =>
    have hread := (hreply (some ⟨some ((giveMemory (.locked w) s).readReply w.addr ans.read), some ans.write⟩)).trans
      (reportRead_held (hreply _).chans w.addr ans.read)
    exact hread.trans (writeTaken_held hread.chans _ _)

theorem startOwnCycle_held {s : State} (h : SoundBut none s) : PrintHeld s (startOwnCycle s) := by
  unfold startOwnCycle
  split
  next e rest _ _ =>
    split
    · exact .refl h
    · have hstart : Sound none none s { s with
          ownQueue := rest, ownCycle := some e, passedOver := 0, memDrive := some e.cycle } :=
        .of_eq h rfl rfl rfl rfl rfl rfl
      dsimp only
      split
      · exact (hstart.trans (grantPlace_printSound hstart.chans)).held
      · exact hstart.held
  · exact .refl h

theorem deliver_held {s : State} (h : SoundBut none s) (req : Requester) (dest : Dest) (hi lo : Option Byte) :
    PrintHeld s (deliver req dest hi lo s) := by
  unfold deliver
  split
  next ch =>
    split
    next op hbusy =>
      have hop := h.opOk hbusy
      split
      next r hstage =>
        obtain ⟨hkind, hpaper, hplaced⟩ := hop.takingLine hstage
        have htake := Sound.inHand h (ch := ch) (by simp [hbusy, ChState.isPlacing, hstage])
          (by simp [hbusy, ChState.isMoving, hstage])
        exact (htake.trans (deliverLine_sound htake.chans ⟨hbusy, hkind, hpaper, hplaced⟩ hstage r dest hi lo)).held
      next r hstage =>
        have htake := Sound.inHand h (ch := ch) (by simp [hbusy, ChState.isPlacing, hstage])
          (by simp [hbusy, ChState.isMoving, hstage])
        exact (htake.trans (deliverTape_sound htake.chans hbusy hstage hop dest hi lo)).held
      next => exact .refl h
    next => exact .refl h
  · split
    · exact deliverRecord_held h _ hi lo
    · exact .refl h
  · exact .refl h

theorem endFetch_held {s : State} (h : SoundBut none s) (ans : ReadAnswer) : PrintHeld s (endFetch ans s) := by
  unfold endFetch
  split
  next req w _ =>
    have hend : PrintHeld s
        ({ s with ownCycle := none }.shadowOwn w.addr ans.taken.1 ans.taken.2) := by
      unfold State.shadowOwn
      split <;> exact .of_eq h rfl rfl rfl rfl rfl rfl
    exact hend.trans (deliver_held hend.chans _ _ _ _)
  · exact .refl h

theorem endTallyWrite_held {s : State} (h : SoundBut none s) (ans : WriteAnswer) :
    PrintHeld s (endTallyWrite ans s) := by
  have hshadow : ∀ a hi lo, PrintHeld s ({ s with ownCycle := none }.shadowOwn a hi lo) := by
    intro a hi lo
    unfold State.shadowOwn
    split <;> exact .of_eq h rfl rfl rfl rfl rfl rfl
  unfold endTallyWrite
  split
  · dsimp only
    split
    · exact hshadow ..
    · exact hshadow ..
  · exact .refl h

/-! ### Resets (R2, R22, R70, R136, R141) -/

theorem hostReset_state (c : Channel) :
    c.hostReset.state.op? = none ∧ (c.hostReset.state = .offline → c.state = .offline) := by
  unfold Channel.hostReset
  cases c.state <;> exact ⟨rfl, by simp⟩

theorem resetChannel_printSound {s : State} (h : SoundBut none s) (ch : ChannelId) :
    Sound none none s (resetChannel ch s) := by
  have htake : Sound none (some ch) s { s with
      cellWait := s.cellWait.filter fun x => decide (x ≠ ch)
      roomWait := s.roomWait.filter fun x => decide (x ≠ .move ch) } :=
    .takeUp h ch rfl rfl rfl rfl
      (fun hs => ⟨hs.cellNodup.filter _, fun i => by simp [and_comm]⟩)
      (fun hs => ⟨hs.roomNodup.filter _, fun x => by simp [and_comm]⟩)
  obtain ⟨hover, hoff⟩ := hostReset_state (s.ch ch)
  obtain ⟨h1, h2, h3, h4⟩ := (h ch).1
  have hend := Sound.endWith htake.chans (f := Channel.hostReset)
    ⟨fun ho => h1 (hoff ho), h2, h3, h4⟩ rfl rfl hover
  exact (htake.trans hend).trans (.of_eq hend.chans rfl rfl rfl rfl rfl rfl)

theorem resetInTurn_printSound {s : State} (h : SoundBut none s) (ch : ChannelId) :
    Sound none none s (resetInTurn s ch) := by
  have hreset := resetChannel_printSound h ch
  unfold resetInTurn
  split
  · exact hreset.trans (afterFreeing_sound hreset.chans)
  · exact hreset

/-- Channels that take the reset one after another. -/
theorem foldl_printSound {f : State → ChannelId → State}
    (hf : ∀ s ch, SoundBut none s → Sound none none s (f s ch)) (l : List ChannelId) {s : State}
    (h : SoundBut none s) : Sound none none s (l.foldl f s) := by
  induction l generalizing s with
  | nil => exact .refl h
  | cons ch l ih => exact (hf s ch h).trans (ih (hf s ch h).chans)

theorem regrant_printSound {s : State} (h : SoundBut none s) : Sound none none s (regrant s) := by
  unfold regrant
  split
  · exact askPlaces_sound h _
  · split
    · exact grantPlaces_printSound _ h
    · have hjoin : Sound none none s { s with placeWait := s.placeWait ++ [.setup] } :=
        .of_eq h rfl rfl rfl rfl rfl rfl
      exact hjoin.trans (grantPlaces_printSound _ hjoin.chans)

theorem hostReset_printSound {s : State} (h : SoundBut none s) (order : List ChannelId) :
    Sound none none s (hostReset order s) := by
  have hpath : Sound none none s (relistSetup (setupFetches s.ownQueue) (resetPath s)) := by
    unfold relistSetup
    split <;> exact .of_eq h rfl rfl rfl rfl rfl rfl
  have hturns := foldl_printSound (fun s ch hs => resetInTurn_printSound hs ch) order hpath.chans
  have hrest := foldl_printSound (f := fun acc ch => resetChannel ch acc)
    (fun s ch hs => resetChannel_printSound hs ch) allChannels hturns.chans
  exact ((hpath.trans hturns).trans hrest).trans (regrant_printSound hrest.chans)

theorem powerOn_held (straps : BitVec 4) (s : State) : PrintHeld s (powerOnWith straps s) := by
  have hch : ∀ i, (powerOnWith straps s).ch i = Channel.powerOn := fun i => by cases i <;> rfl
  refine ⟨fun i => ?_, fun _ => rfl, fun _ _ => ⟨⟨Nat.zero_le _, nofun⟩, nofun, nofun, nofun⟩, fun _ => ?_⟩
  · rw [hch]
    exact ⟨⟨fun _ => ⟨rfl, rfl, rfl⟩, nofun, nofun, nofun⟩, fun _ => opFits_of_op?_eq_none rfl⟩
  · rw [waitsBut_iff]
    refine ⟨List.nodup_nil, List.nodup_nil, fun i => ?_, fun i => ?_, fun i => ?_⟩
    all_goals
      rw [hch]
      exact ⟨nofun, fun hf => by simp [ChState.isPlacing, ChState.isMoving, Channel.powerOn] at hf⟩

/-! ### Every operation -/

theorem Effect.held_of {s t : State} (h : Effect s t) (hs : SoundBut none s) : PrintHeld s t := by
  have hpanel : ∀ p, PrintHeld s { s with panel := p } := fun _ => .of_eq hs rfl rfl rfl rfl rfl rfl
  cases h with
  | nothing => exact .refl hs
  | poweredOn straps => exact powerOn_held straps s
  | busReset order => exact (hostReset_printSound hs order).held
  | held c => exact .of_eq hs rfl rfl rfl rfl rfl rfl
  | passed c ans =>
    have hfree : PrintHeld s { s with presented := none } := .of_eq hs rfl rfl rfl rfl rfl rfl
    exact hfree.trans (passCycle_held hfree.chans c ans)
  | retried => exact (afterFreeing_sound hs).held
  | claimed x _ hx => exact (claimAlone_sound hs hx).held
  | ticked ch => exact (channelTick_sound hs ch).held
  | linkTicked => exact tickLink_held hs
  | panelSet p => exact hpanel p
  | stopped p ch => exact (hpanel p).trans (stopChannel_sound (hpanel p).chans ch).held
  | started p ch =>
    have hstart := (hpanel p).trans (startChannel_sound (hpanel p).chans ch).held
    exact hstart.trans (startLink_held hstart.chans)
  | ejected p ch => exact (hpanel p).trans (ejectChannel_sound (hpanel p).chans ch).held
  | received bytes => exact receive_held bytes hs
  | rowSent => exact sendRow_held hs
  | endSent => exact sendEnd_held hs
  | ownStarted => exact startOwnCycle_held hs
  | granted =>
    change PrintHeld s (if 0 < s.freeFetchPlaces then grantPlace s else s)
    split
    · exact (grantPlace_printSound hs).held
    · exact .refl hs
  | fetched ans => exact endFetch_held hs ans
  | tallied ans => exact endTallyWrite_held hs ans

end Sys2Proof.Machine
end

section
/-! PROOF. Every step keeps the cells at 24,576 in all, the wait lists in step, and the queue and the link in order
(R61, R68, R90, R97, R98, R100). -/

namespace Sys2Proof
open Sys2Proof.Machine

/-- Settles O33: a cell moves between the free count, the open forms, the pending sheets and the queue in one
operation, and every other operation leaves all of them alone. -/
theorem cellPoolKept : Obligations.CellPoolKept := by
  intro s t hs hstep
  refine step_keeps (P := fun s => CellsTotal s ∧ ChannelsOk s) (fun _ _ => id) (fun s t heff hs => ?_) hs hstep
  obtain ⟨hcells, hchans⟩ := hs
  have hheld := heff.held_of ((soundBut_none_iff s).mpr hchans)
  exact ⟨hheld.cells hcells, (soundBut_none_iff t).mp hheld.chans⟩

/-- Settles O34: an operation joins or leaves a wait list in the event that brings it into PLACING or MOVING, or
out of it. -/
theorem waitListsKept : Obligations.WaitListsKept := by
  intro s t hs hstep
  refine step_keeps (P := fun s => ChannelsOk s ∧ CellWaitOk s ∧ RoomWaitOk s) (fun _ _ => id)
    (fun s t heff hs => ?_) hs hstep
  obtain ⟨hchans, hwaits⟩ := hs
  have hheld := heff.held_of ((soundBut_none_iff s).mpr hchans)
  exact ⟨(soundBut_none_iff t).mp hheld.chans,
    (waitsBut_none_iff t).mp (hheld.waits ((waitsBut_none_iff s).mpr hwaits))⟩

/-- Settles O35: sheets enter at the tail, where there is a place, and leave at the head, where the link then
starts anew. -/
theorem queueAndLinkKept : Obligations.QueueAndLinkKept := by
  intro s t hs hstep
  refine step_keeps (P := fun s => ChannelsOk s ∧ QueueOk s ∧ LinkFitsQueue s) (fun _ _ => id)
    (fun s t heff hs => ?_) hs hstep
  obtain ⟨hchans, hqueue, hlink⟩ := hs
  have hheld := heff.held_of ((soundBut_none_iff s).mpr hchans)
  exact ⟨(soundBut_none_iff t).mp hheld.chans, hheld.queue hqueue hlink⟩

end Sys2Proof
end

section
/-! SUPPORT. Host cycles that pass, and those that are held: what the arbiter, the forced read and the report of a
write answer (R120, R121, R125, R127, R128, R132 to R135). -/

namespace Sys2Proof.Machine
open Sys2Proof.Claims

/-! ### Words and windows -/

theorem findWindow_isSome_of_lookup {s : State} {a : Addr} {x : Role × Nat} (h : s.lookup a = some x) :
    (s.findWindow a).isSome = true := by
  unfold State.lookup at h
  obtain ⟨w, hw, _⟩ := Option.map_eq_some_iff.mp h
  rw [hw]
  rfl

theorem lookup_eq_none {s : State} {a : Addr} (h : ∀ v ∈ s.windows, v.covers a = false) :
    s.findWindow a = none ∧ s.lookup a = none := by
  have hfind : s.findWindow a = none := by
    unfold State.findWindow
    rw [List.find?_eq_none]
    exact fun v hv => by simp [h v hv]
  exact ⟨hfind, by rw [State.lookup, hfind]; rfl⟩

theorem findWindow_isSome_iff (s : State) (a : Addr) :
    (s.findWindow a).isSome = true ↔ ∃ v ∈ s.windows, v.covers a = true := by
  unfold State.findWindow
  rw [List.find?_isSome]

/-! ### Held cycles (R132 to R134) -/

theorem fetchPending_of_waits {s : State} {a : Addr} (h : FetchWaits a s) : s.fetchPending a = true := by
  obtain ⟨req, f, hmem, haddr⟩ := h
  have hany : s.ownQueue.any (OwnEntry.fetches a) = true :=
    List.any_eq_true.mpr ⟨_, hmem, decide_eq_true haddr⟩
  simp [State.fetchPending, hany]

/-- The guard holds while an own cycle waits that has been passed over 32 times. -/
theorem guardHold_eq_true {s : State} (hwaits : s.ownQueue ≠ []) (hcount : 32 ≤ s.passedOver) :
    s.guardHold = true := by
  have hlimit : Config.guardLimit ≤ s.passedOver := hcount
  simp [State.guardHold, hlimit, hwaits]

theorem writeHold_eq_true {s : State} {c : BusCycle} (hwrite : cycleWrites c = true)
    (hwindow : (s.findWindow (cycleAddr c)).isSome = true) (hwaits : FetchWaits (cycleAddr c) s) :
    s.writeHold c = true := by
  simp [State.writeHold, hwrite, hwindow, fetchPending_of_waits hwaits]

/-- Each of the three holds keeps a cycle from passing. -/
theorem canPass_eq_false {s : State} {c : BusCycle}
    (h : s.ownCycle ≠ none ∨ (s.ownQueue ≠ [] ∧ 32 ≤ s.passedOver) ∨
      (cycleWrites c = true ∧ (∃ v ∈ s.windows, v.covers (cycleAddr c) = true) ∧
        FetchWaits (cycleAddr c) s)) : s.canPass c = false := by
  obtain hbusy | ⟨hwaits, hcount⟩ | ⟨hwrite, hwindow, hwaits⟩ := h
  · simp [State.canPass, hbusy]
  · simp [State.canPass, guardHold_eq_true hwaits hcount]
  · simp [State.canPass, writeHold_eq_true hwrite ((findWindow_isSome_iff ..).mpr hwindow) hwaits]

theorem presentCycle_of_canPass {c : BusCycle} {s : State} (halone : s.presented = none)
    (h : s.canPass c = true) (ans : CycleAnswer) : presentCycle c ans s = passCycle c ans s := by
  rw [presentCycle, halone]
  exact if_pos h

theorem presentCycle_of_held {c : BusCycle} {s : State} (halone : s.presented = none)
    (h : s.canPass c = false) (ans : CycleAnswer) :
    presentCycle c ans s = { s with presented := some c, hostReply := none } := by
  rw [presentCycle, halone]
  exact if_neg (by simp [h])

theorem passPresented_of_canPass {c : BusCycle} {s : State} (hpres : s.presented = some c)
    (h : s.canPass c = true) (ans : CycleAnswer) :
    passPresented ans s = passCycle c ans { s with presented := none } := by
  rw [passPresented, hpres]
  exact if_pos h

theorem passPresented_of_held {c : BusCycle} {s : State} (hpres : s.presented = some c)
    (h : s.canPass c = false) (ans : CycleAnswer) : passPresented ans s = s := by
  rw [passPresented, hpres]
  exact if_neg (by simp [h])

/-! ### Reads that pass -/

theorem reportRead_other {a : Addr} {s : State} (h : ∀ ch, s.lookup a ≠ some (.control ch, 1))
    (ans : ReadAnswer) : reportRead a ans s = s := by
  unfold reportRead
  split
  next ch hword => exact absurd hword (h ch)
  next => rfl

theorem reportRead_status {a : Addr} {ch : ChannelId} {s : State}
    (h : s.lookup a = some (.control ch, 1)) (ans : ReadAnswer) :
    reportRead a ans s = if goodHigh ans then statusTaken ch s else s := by
  simp only [reportRead, h]

theorem BusByte.good_iff (b : BusByte) : b.good = true ↔ b.par = oddParityBit b.val := beq_iff_eq

theorem forceByte_good {m : BusByte} (h : m.par = oddParityBit m.val) (v : Byte) :
    forceByte m v = ⟨v, oddParityBit v⟩ := if_pos ((BusByte.good_iff m).mpr h)

theorem forceByte_bad {m : BusByte} (h : m.par ≠ oddParityBit m.val) (v : Byte) :
    forceByte m v = ⟨v, !oddParityBit v⟩ := if_neg fun hgood => h ((BusByte.good_iff m).mp hgood)

theorem goodHigh_iff (m : BusWord) : goodHigh (.data m) = true ↔ m.hi.par = oddParityBit m.hi.val :=
  BusByte.good_iff m.hi

/-- The other words of the setup window are forced while answers stand in them (R151). -/
theorem forced_setup {s : State} {a : Addr} {k : Nat} (h : s.lookup a = some (.setup, k)) (hk : k ≠ 19)
    (memHi : Byte) : s.forced a memHi =
      if s.setup.answersPresent && decide (2 ≤ k) && decide (k ≤ 9) then
        ⟨some (hiByte (s.setup.answers.getD (k - 2) 0)), some (loByte (s.setup.answers.getD (k - 2) 0))⟩
      else ⟨none, none⟩ := by
  unfold State.forced
  rw [h]
  split
  next hx => cases hx
  next hx => cases hx
  next hx => exact absurd (Prod.mk.inj (Option.some.inj hx)).2 hk
  next hx =>
    obtain ⟨_, rfl⟩ := Prod.mk.inj (Option.some.inj hx)
    rfl
  next hno => exact absurd rfl (hno k)

/-- A read that passes and is no status read only answers the host. -/
theorem exec_read_of_passes {a : Addr} {s : State} (h : Passes (.read a) s)
    (hword : ∀ ch, s.lookup a ≠ some (.control ch, 1)) (ans : CycleAnswer) :
    exec (.hostCyclePassThrough (.read a) ans) s =
      .next (given (.read a) ⟨some (s.readReply a ans.read), none⟩ s) := by
  change Host.Outcome.next (presentCycle _ _ _) = _
  rw [presentCycle_of_passes h, passCycle_read, reportRead_other]
  exact hword

/-! ### Writes that pass -/

/-- Every command that is a host write presents it. -/
theorem presentWrite_of_passes {w : BusWrite} {s : State} (h : Passes (.write w) s) (ans : WriteAnswer) :
    presentWrite w ans s = writeTaken w ans (given (.write w) ⟨none, some ans⟩ s) := by
  rw [presentWrite, presentCycle_of_passes h]
  rfl

theorem writeTaken_window {w : BusWrite} {s : State} {x : Role × Nat} (h : s.lookup w.addr = some x)
    (ans : WriteAnswer) : writeTaken w ans s =
      reportWrite w { s with shadow := shadowHostWrite w ans s.shadow } := by
  rw [writeTaken, shadowWrite, if_pos (findWindow_isSome_of_lookup h)]

/-- A write to a window's word lands in the shadow and is reported to its owner. -/
theorem presentWrite_window {w : BusWrite} {s : State} {x : Role × Nat} (h : Passes (.write w) s)
    (hword : s.lookup w.addr = some x) (ans : WriteAnswer) :
    presentWrite w ans s = reportWrite w (written w ans s) :=
  (presentWrite_of_passes h ans).trans
    (writeTaken_window (s := given (.write w) ⟨none, some ans⟩ s) (x := x) hword ans)

theorem reportWrite_command {w : BusWrite} {s : State} {ch : ChannelId}
    (h : s.lookup w.addr = some (.control ch, 0)) : reportWrite w s = commandWrite ch w s := by
  simp only [reportWrite, h]

theorem reportWrite_tally {w : BusWrite} {s : State} {ch : ChannelId}
    (h : s.lookup w.addr = some (.control ch, 3)) : reportWrite w s = presetTally ch w s := by
  simp only [reportWrite, h]

theorem reportWrite_setup {w : BusWrite} {s : State} {k : Nat} (h : s.lookup w.addr = some (.setup, k)) :
    reportWrite w s = setupWrite k s := by
  simp only [reportWrite, h]

/-- Pages, tapes, the status word and the line-length word have no owner who is told. -/
theorem reportWrite_unowned {w : BusWrite} {s : State} {ch : ChannelId} {k : Nat}
    (h : s.lookup w.addr = some (.pages ch, k) ∨ s.lookup w.addr = some (.tape ch, k) ∨
      s.lookup w.addr = some (.control ch, 1) ∨ s.lookup w.addr = some (.control ch, 2)) :
    reportWrite w s = s := by
  obtain h | h | h | h := h
  all_goals simp only [reportWrite, h]

/-- The bytes a write names, merged. -/
theorem mergeBytes_eq (w : BusWrite) (old : Word) : mergeBytes w old = merged w old := rfl

theorem goBit_eq (v : Word) : goBit v = v.getLsbD 15 := rfl

theorem writeMakesGo_iff (w : BusWrite) (c : Channel) :
    writeMakesGo c.goMode c.merged (mergeBytes w c.merged) = true ↔ MakesGo w c := by
  rw [mergeBytes_eq]
  unfold writeMakesGo MakesGo newCommand
  cases c.goMode <;> simp [goBit_eq]

/-- A write to the command word that passes comes to the channel's controller (R3 to R6). -/
theorem presentWrite_command {w : BusWrite} {ch : ChannelId} {s : State} (h : CommandWrite w ch s)
    (ans : WriteAnswer) : presentWrite w ans s = commandWrite ch w (written w ans s) := by
  rw [presentWrite_window h.passes h.word]
  exact reportWrite_command (s := written w ans s) h.word

@[simp] theorem written_ch (w : BusWrite) (ans : WriteAnswer) (s : State) (i : ChannelId) :
    (written w ans s).ch i = s.ch i := by cases i <;> rfl

theorem commandWrite_eq (ch : ChannelId) (w : BusWrite) (s : State) :
    commandWrite ch w s =
      if writeMakesGo (s.ch ch).goMode (s.ch ch).merged (mergeBytes w (s.ch ch).merged) then
        takeGo ch (newCommand w (s.ch ch)) (s.modCh ch (withCommand w))
      else s.modCh ch (withCommand w) := by
  have hmod : (s.modCh ch fun c => { c with merged := mergeBytes w (s.ch ch).merged, prevMerged := (s.ch ch).merged }) =
      s.modCh ch (withCommand w) := modCh_congr rfl
  unfold commandWrite
  dsimp only
  rw [hmod]
  rfl

/-- A write that makes a GO is taken as one on the channel with its merged values. -/
theorem presentWrite_go {w : BusWrite} {ch : ChannelId} {s : State} (h : CommandWrite w ch s)
    (hgo : MakesGo w (s.ch ch)) (ans : WriteAnswer) :
    presentWrite w ans s =
      takeGo ch (newCommand w (s.ch ch)) ((written w ans s).modCh ch (withCommand w)) := by
  rw [presentWrite_command h, commandWrite_eq, written_ch, if_pos ((writeMakesGo_iff ..).mpr hgo)]

theorem removeTally_passed (ch : ChannelId) (q : List OwnEntry) (n : Nat) :
    (if (q.head?.map (OwnEntry.isTallyOf ch)).getD false then 0 else if q.isEmpty then n else n + 1) =
      match q with
      | .tally c _ _ :: _ => if c = ch then 0 else n + 1
      | .fetch _ _ :: _ => n + 1
      | [] => n := by
  cases q with
  | nil => rfl
  | cons e rest =>
    cases e with
    | fetch req f => rfl
    | tally c a v =>
      simp only [List.head?_cons, Option.map_some, Option.getD_some, OwnEntry.isTallyOf, decide_eq_true_eq]
      rfl

theorem merged_both {w : BusWrite} (hhi : w.en.hi = true) (hlo : w.en.lo = true) (old : Word) :
    merged w old = w.data.hi.val ++ w.data.lo.val := by
  rw [merged, if_pos hhi, if_pos hlo]

end Sys2Proof.Machine
end

section
/-! PROOF. Host cycles: what passes unwindowed, what a write to a window's word does, what is held and how it passes,
the forced reads, the locked cycle and the tally preset. -/

namespace Sys2Proof
open Sys2Proof.Machine Sys2Proof.Claims

/-- Settles O3: with no window the address has no owner, so the read is unforced, the shadow takes no byte and
nobody is told. -/
theorem passUnwindowed : Obligations.PassUnwindowed := by
  intro c ans s hfree hguard halone hnone
  obtain ⟨hfind, hlook⟩ := lookup_eq_none hnone
  have hpass : s.canPass c = true := by
    simp [State.canPass, State.writeHold, hfree, guardHold_eq_false hguard, hfind]
  have hreply : ∀ a, s.lookup a = none → s.readReply a ans.read = ans.read := by
    intro a ha
    cases h : ans.read with
    | data m => simp [State.readReply, State.forced, ha, returnByte]
    | noResponse => rfl
  have hread : ∀ t : State, t.windows = s.windows → reportRead (cycleAddr c) ans.read t = t := fun t ht =>
    by
    have hsame : t.lookup (cycleAddr c) = none := by
      rw [State.lookup, State.findWindow, ht]
      exact hlook
    exact reportRead_other (fun ch => by simp [hsame]) _
  have hwrite : ∀ (w : BusWrite) (t : State), w.addr = cycleAddr c → t.windows = s.windows →
      writeTaken w ans.write t = t := by
    intro w t hw ht
    have htfind : t.findWindow w.addr = none := by rw [State.findWindow, ht, hw]; exact hfind
    have hlook' : t.lookup w.addr = none := by rw [State.lookup, htfind]; rfl
    rw [writeTaken, shadowWrite, if_neg (by simp [htfind]), reportWrite, hlook']
  change Host.Outcome.next (presentCycle _ _ _) = _
  rw [presentCycle_of_canPass halone hpass]
  congr 1
  cases c with
  | read a =>
    rw [passCycle_read, hreply a hlook]
    exact hread _ rfl
  | write w => exact hwrite w _ rfl rfl
  | locked w =>
    change writeTaken w ans.write (reportRead w.addr ans.read
      (given (.locked w) ⟨some (s.readReply w.addr ans.read), some ans.write⟩ s)) = _
    rw [hreply w.addr hlook]
    have hhalf := hread (given (.locked w) ⟨some ans.read, some ans.write⟩ s) rfl
    exact (congrArg _ hhalf).trans (hwrite w _ rfl rfl)

/-- Settles O4: no owner is told of a write to such a word, but for the setup unit, whose answers end; the shadow
byte by byte is `read_shadowHostWrite`. -/
theorem windowWrite : Obligations.WindowWrite := by
  refine ⟨fun w ans ch k s hpass hword => ?_, fun w ans k s hpass hword hk => ?_, fun w ans m b => ?_⟩
  · change Host.Outcome.next (presentWrite _ _ _) = _
    have hlook : ∃ x, s.lookup w.addr = some x := by
      obtain h | h | h | h := hword <;> exact ⟨_, h⟩
    obtain ⟨x, hx⟩ := hlook
    rw [presentWrite_window hpass hx]
    exact congrArg _ (reportWrite_unowned (s := written w ans s) hword)
  · change Host.Outcome.next (presentWrite _ _ _) = _
    rw [presentWrite_window hpass hword, reportWrite_setup (s := written w ans s) hword, setupWrite, if_neg hk]
    rfl
  · rw [read_shadowHostWrite]
    have hanswer : ∀ x : BusByte, (if ans = .accepted ∧ x.par = oddParityBit x.val then some x.val else none) =
        match ans with | .accepted => x.taken | .noResponse => none := by
      intro x
      cases ans <;> simp [BusByte.taken, BusByte.good]
    rw [hanswer, hanswer]
    by_cases hlo : w.en.lo = true ∧ b = 2 * w.addr.toNat + 1
    · obtain ⟨hen, rfl⟩ := hlo
      rw [if_pos ⟨hen, rfl⟩, if_neg (by omega)]
      exact Eq.symm (if_pos ⟨hen, rfl⟩)
    · rw [if_neg hlo, if_neg (fun h => hlo ⟨h.1, h.2.symm⟩)]
      by_cases hhi : w.en.hi = true ∧ b = 2 * w.addr.toNat
      · rw [if_pos hhi]
        exact if_pos ⟨hhi.1, hhi.2.symm⟩
      · rw [if_neg hhi, if_neg (fun h => hhi ⟨h.1, h.2.symm⟩)]

/-- Settles O5: the merge is made before the GO is looked for, and no GO follows it. -/
theorem commandWriteNoGo : Obligations.CommandWriteNoGo := by
  intro w ans ch s hcommand hno
  change Host.Outcome.next (presentWrite _ _ _) = _
  rw [presentWrite_command hcommand, commandWrite_eq, written_ch,
    if_neg (fun h => hno ((writeMakesGo_iff ..).mp h))]

/-- Settles O6: what holds a cycle leaves it presented, and a presented one leaves the bus to no other. -/
theorem heldCycleWaits : Obligations.HeldCycleWaits := by
  refine ⟨fun c ans s halone hheld => ?_, fun c d ans s hpres => ?_⟩
  · exact congrArg Host.Outcome.next (presentCycle_of_held halone (canPass_eq_false hheld) ans)
  · change Host.Outcome.next (presentCycle _ _ _) = _
    rw [presentCycle, hpres]

/-- Settles O7: the arbiter asks the same of a cycle that waits as of one presented then. -/
theorem heldCyclePasses : Obligations.HeldCyclePasses := by
  refine ⟨fun c ans s hpres hunheld => ?_, fun w ans ch k s hpres hunheld hword => ?_,
    fun c ans s hpres hheld => ?_⟩
  · have hcan := Unheld.canPass hunheld
    refine ⟨_, congrArg Host.Outcome.next (passPresented_of_canPass hpres hcan ans), ?_, ?_⟩
    · exact (passCycle_kept ..).2.1
    · exact congrArg Host.Outcome.next (presentCycle_of_canPass (s := { s with presented := none }) rfl hcan ans)
  · change Host.Outcome.next (passPresented _ _) = _
    rw [passPresented_of_canPass hpres (Unheld.canPass hunheld)]
    congr 1
    change writeTaken w ans.write (given (.write w) ⟨none, some ans.write⟩ { s with presented := none }) = _
    refine (writeTaken_window (s := given (.write w) ⟨none, some ans.write⟩ { s with presented := none })
      (x := (.pages ch, k)) hword _).trans ?_
    exact reportWrite_unowned (s := written w ans.write { s with presented := none }) (.inl hword)
  · exact congrArg Host.Outcome.next (passPresented_of_held hpres (canPass_eq_false hheld) ans)

/-- Settles O9: the status byte takes the high byte's place with its parity, and the report clears only after a
good one. -/
theorem statusRead : Obligations.StatusRead := by
  intro a ch s hpass hword
  have hreport : ∀ ans r, reportRead a ans (given (.read a) r s) =
      if goodHigh ans then statusTaken ch (given (.read a) r s) else given (.read a) r s :=
    fun ans r => reportRead_status (s := given (.read a) r s) hword ans
  refine ⟨fun m hgood => ?_, fun m hbad => ?_, ?_⟩
  · rw [exec_statusRead_of_passes hpass, readReply_status hword, hreport, if_pos ((goodHigh_iff m).mpr hgood),
      forceByte_good hgood]
    rfl
  · rw [exec_statusRead_of_passes hpass, readReply_status hword, hreport,
      if_neg (fun h => hbad ((goodHigh_iff m).mp h)), forceByte_bad hbad]
  · rw [exec_statusRead_of_passes hpass, hreport]
    rfl

/-- Settles O10: each word that is forced has its own row in `State.forced`, and every other word none. -/
theorem forcedReads : Obligations.ForcedReads := by
  intro a m s hpass
  refine ⟨fun ch hword => ?_, fun hword => ?_, fun k hk hpresent hword => ?_, fun r k hword hcontrol hresult hsetup => ?_⟩
  · rw [exec_read_of_passes hpass (by simp [hword])]
    simp [State.readReply, State.forced, hword, returnByte]
  · rw [exec_read_of_passes hpass (by simp [hword])]
    simp [State.readReply, State.forced, hword, returnByte]
  · rw [exec_read_of_passes hpass (by simp [hword])]
    have hanswers : (s.setup.answersPresent && decide (2 ≤ k + 2) && decide (k + 2 ≤ 9)) = true := by
      simp only [hpresent, Bool.true_and, Bool.and_eq_true, decide_eq_true_eq]
      omega
    simp only [State.readReply, forced_setup hword (show k + 2 ≠ 19 by omega), if_pos hanswers, returnByte]
    rfl
  · rw [exec_read_of_passes hpass (fun ch h => (hcontrol ch).2 (Option.some.inj (hword.symm.trans h)))]
    have hnone : s.forced a m.hi.val = ⟨none, none⟩ := by
      unfold State.forced
      rw [hword]
      split
      next ch h => exact absurd (Option.some.inj h) (hcontrol ch).1
      next ch h => exact absurd (Option.some.inj h) (hcontrol ch).2
      next h => exact absurd (Option.some.inj h) hresult
      next k' _ h =>
        obtain ⟨rfl, rfl⟩ := Prod.mk.inj (Option.some.inj h)
        rw [if_neg]
        obtain habsent | hrange := hsetup rfl
        · simp [habsent]
        · simp only [Bool.and_eq_true, decide_eq_true_eq]
          omega
      next => rfl
    simp [State.readReply, hnone, returnByte]

/-- Settles O11: the read half's report comes before the write half's bytes, and the memory side is given once. -/
theorem lockedCycle : Obligations.LockedCycle := by
  refine ⟨fun w m wa ch s hpass hword hgood => ?_, fun w ans ch k s hpass hword => ?_⟩
  · change Host.Outcome.next (presentCycle _ _ _) = _
    rw [presentCycle_of_passes hpass]
    congr 1
    change writeTaken w wa (reportRead w.addr (.data m)
      (given (.locked w) ⟨some (s.readReply w.addr (.data m)), some wa⟩ s)) = _
    rw [readReply_status hword, forceByte_good hgood]
    generalize hg : given (.locked w) _ s = g
    have hlook : g.lookup w.addr = some (.control ch, 1) := by
      subst hg
      exact hword
    rw [reportRead_status hlook, if_pos ((goodHigh_iff m).mpr hgood),
      writeTaken_window (s := statusTaken ch g) (x := (.control ch, 1)) hlook]
    subst hg
    exact reportWrite_unowned (k := 0) (.inr (.inr (.inl hword)))
  · change Host.Outcome.next (presentCycle _ _ _) = _
    rw [presentCycle_of_passes hpass]
    congr 1
    change writeTaken w ans.write (reportRead w.addr ans.read
      (given (.locked w) ⟨some (s.readReply w.addr ans.read), some ans.write⟩ s)) = _
    have hunforced : s.readReply w.addr ans.read = ans.read := by
      cases ans.read with
      | noResponse => rfl
      | data m =>
        obtain h | h := hword
        · simp [State.readReply, State.forced, h, returnByte]
        · simp [State.readReply, State.forced, h, returnByte]
    have hreport : ∀ t : State, t.windows = s.windows → reportRead w.addr ans.read t = t := by
      intro t ht
      refine reportRead_other (fun i => ?_) _
      have hsame : t.lookup w.addr = s.lookup w.addr := by
        rw [State.lookup, State.findWindow, ht]
        rfl
      rw [hsame]
      obtain h | h := hword <;> simp [h]
    have hlook : ∃ x, s.lookup w.addr = some x := by
      obtain h | h := hword <;> exact ⟨_, h⟩
    obtain ⟨x, hx⟩ := hlook
    rw [hunforced]
    refine (congrArg (writeTaken w ans.write)
      (hreport (given (.locked w) ⟨some ans.read, some ans.write⟩ s) rfl)).trans ?_
    refine (writeTaken_window (s := given (.locked w) ⟨some ans.read, some ans.write⟩ s) (x := x) hx _).trans ?_
    exact reportWrite_unowned (s := { given (.locked w) ⟨some ans.read, some ans.write⟩ s with
      shadow := shadowHostWrite w ans.write s.shadow }) (hword.imp id .inl)

/-- Settles O12: the preset merges first, and the waiting TALLY-WRITE goes with its place at the head, or takes
the new tally where it stands. -/
theorem tallyPreset : Obligations.TallyPreset := by
  intro w ans ch s hpass hword
  have htaken : exec (.tallyPreset w ans) s = .next (presetTally ch w (written w ans s)) := by
    change Host.Outcome.next (presentWrite _ _ _) = _
    rw [presentWrite_window hpass hword, reportWrite_tally (s := written w ans s) hword]
  refine ⟨fun hhi hlo => ?_, fun hone => ?_⟩
  · rw [htaken, presetTally, if_pos (by simp [hhi, hlo])]
    simp only [mergeBytes_eq, merged_both hhi hlo]
    exact congrArg (fun n => Host.Outcome.next { removeTally ch ((written w ans s).modCh ch fun c =>
      { c with tally := w.data.hi.val ++ w.data.lo.val }) with passedOver := n })
      (removeTally_passed ch s.ownQueue s.passedOver)
  · rw [htaken, presetTally, if_neg (by revert hone; cases w.en.hi <;> cases w.en.lo <;> simp),
      if_pos (by revert hone; cases w.en.hi <;> cases w.en.lo <;> simp), updateTally]
    simp only [State.ch_modCh_same, mergeBytes_eq, written_ch]
    rfl

end Sys2Proof
end

section
/-! SUPPORT. Sheets as they enter, the link's events, the frames of both directions (R85, R91, R92, R99, R103 to R117,
R165, R166). -/

namespace Sys2Proof.Machine
open Sys2Proof.Claims

/-! ### The entry of a sheet -/

theorem makeSheet_eq_sheetOf (s : State) (ch : ChannelId) (f0 : Form) (f1 : Option Form) :
    makeSheet s ch f0 f1 = sheetOf ch f0 f1 s := by
  simp only [makeSheet, sheetOf, satAdd, Nat.zero_add]
  rfl

/-- The entry of a sheet, written out (R85, R91, R92, R99, R106). -/
theorem enterQueue_eq_entered (ch : ChannelId) (f0 : Form) (f1 : Option Form) (s : State) :
    enterQueue ch f0 f1 s = entered ch f0 f1 s := by
  have hfresh : (makeSheet s ch f0 f1).attempts ≠ Config.attemptLimit := by
    simp [makeSheet, Config.attemptLimit]
  unfold enterQueue entered
  rw [← makeSheet_eq_sheetOf]
  dsimp only
  by_cases h : s.link.state = .idleUp ∧ s.queue = []
  · rw [if_pos h, if_pos h, if_pos h]
    unfold startSheet
    rw [h.2]
    dsimp only [List.nil_append]
    rw [if_neg hfresh]
    rfl
  · rw [if_neg h, if_neg h, if_neg h]
    rfl

theorem routeClose_oneUp {ch : ChannelId} {s : State} (h : (s.ch ch).layout.geo.twoUp = false) (f : Form) :
    routeClose ch f s = entered ch f none s := by
  unfold routeClose
  rw [if_neg (by simp [h]), enterQueue_eq_entered]

theorem routeClose_first {ch : ChannelId} {s : State} (htwo : (s.ch ch).layout.geo.twoUp = true)
    (hnone : (s.ch ch).pendSheet = none) (f : Form) :
    routeClose ch f s = s.modCh ch fun c => { c with pendSheet := some f } := by
  unfold routeClose
  rw [if_pos htwo, hnone]

theorem routeClose_second {ch : ChannelId} {s : State} {f0 : Form} (htwo : (s.ch ch).layout.geo.twoUp = true)
    (hsome : (s.ch ch).pendSheet = some f0) (f : Form) :
    routeClose ch f s = entered ch f0 (some f) (s.modCh ch fun c => { c with pendSheet := none }) := by
  unfold routeClose
  rw [if_pos htwo, hsome, ← enterQueue_eq_entered]

/-! ### Attempts (R113, R115, R117) -/

theorem failAttempt_eq {s : State} {sh : Sheet} {rest : List Sheet} (h : s.queue = sh :: rest) :
    failAttempt s = failed sh rest s.link s := by
  unfold failAttempt failed setAttempts
  rw [h]
  dsimp only
  split
  next hlast =>
    rw [if_pos (show sh.attempts + 1 = 16 from hlast)]
  next hmore =>
    rw [if_neg (show sh.attempts + 1 ≠ 16 from hmore)]
    rfl

theorem setAttempts_eq {s : State} {sh : Sheet} {rest : List Sheet} (h : s.queue = sh :: rest) (n : Nat) :
    setAttempts n s = { s with queue := { sh with attempts := n } :: rest } := by
  unfold setAttempts
  rw [h]

/-- START releases the head sheet of a link that waits for the operator (R117). -/
theorem startLink_waiting {s : State} {sh : Sheet} {rest : List Sheet} (hwaits : s.link.state = .waitOperator)
    (hqueue : s.queue = sh :: rest) :
    startLink s = begins ({ sh with attempts := 0 } :: rest) s.link
      { s with queue := { sh with attempts := 0 } :: rest } := by
  unfold startLink
  rw [if_pos hwaits, setAttempts_eq hqueue, startSheet_eq_begins]

theorem resendSheet_eq {s : State} {sh : Sheet} {rest : List Sheet} (h : s.queue = sh :: rest)
    (hleft : sh.attempts < 16) : resendSheet s = begins s.queue s.link s := by
  unfold resendSheet begins
  rw [h]
  dsimp only
  rw [if_neg (by omega)]
  rfl

/-! ### Ticks (R105, R109, R115) -/

theorem tickLoses_iff (s : State) : tickLoses s = true ↔ s.link.state ≠ .down ∧ 2 ≤ s.link.silence := by
  have hlimit : Config.silenceLimit ≤ s.link.silence + 1 ↔ 2 ≤ s.link.silence := by
    change 3 ≤ s.link.silence + 1 ↔ _
    omega
  simp [tickLoses, hlimit]

theorem tickLoses_eq_false {s : State} (h : s.link.silence < 2) : tickLoses s = false := by
  rw [← Bool.not_eq_true, tickLoses_iff]
  omega

theorem tickExpires_iff (s : State) :
    tickExpires s = true ↔ s.link.state = .awaiting ∧ tickLoses s = false ∧ s.link.replyTimer ≤ 1 := by
  simp [tickExpires, and_assoc]

theorem tickEndsBackoff_iff (s : State) :
    tickEndsBackoff s = true ↔ s.link.state = .backoff ∧ tickLoses s = false ∧ s.link.backoffTimer ≤ 1 := by
  simp [tickEndsBackoff, and_assoc]

theorem tickLink_down {s : State} (h : s.link.state = .down) : tickLink s = s := if_pos h

theorem tickLink_loss {s : State} (h : tickLoses s = true) : tickLink s = loseLink s := by
  unfold tickLink
  rw [if_neg ((tickLoses_iff s).mp h).1, if_pos h]

/-- The tick that is no loss: silence rises, and the timer of the state counts. -/
theorem tickLink_awaiting {s : State} (h : s.link.state = .awaiting) (hloss : tickLoses s = false) :
    tickLink s =
      if tickExpires s then
        failAttempt { s with link := { s.link with
          silence := s.link.silence + 1, replyTimer := s.link.replyTimer - 1 } }
      else { s with link := { s.link with
        silence := s.link.silence + 1, replyTimer := s.link.replyTimer - 1 } } := by
  unfold tickLink
  rw [if_neg (by simp [h]), if_neg (by simp [hloss]), h]

theorem tickLink_backoff {s : State} (h : s.link.state = .backoff) (hloss : tickLoses s = false) :
    tickLink s =
      if tickEndsBackoff s then
        resendSheet { s with link := { s.link with
          silence := s.link.silence + 1, backoffTimer := s.link.backoffTimer - 1 } }
      else { s with link := { s.link with
        silence := s.link.silence + 1, backoffTimer := s.link.backoffTimer - 1 } } := by
  unfold tickLink
  rw [if_neg (by simp [h]), if_neg (by simp [hloss]), h]

theorem tickLink_untimed {s : State} (h : s.link.state = .training ∨ s.link.state = .idleUp ∨
    s.link.state = .sending ∨ s.link.state = .waitOperator) (hloss : tickLoses s = false) :
    tickLink s = { s with link := { s.link with silence := s.link.silence + 1 } } := by
  unfold tickLink
  obtain h | h | h | h := h <;> rw [if_neg (by simp [h]), if_neg (by simp [hloss]), h]

/-! ### Frames (R103, R107 to R109, R165, R166) -/

theorem frameBytes_eq_wire (kind : Byte) (payload : List Byte) :
    frameBytes kind payload = wire kind payload (frameCrc kind payload) := by
  unfold frameBytes wire
  rw [List.append_assoc]
  rfl

/-- What the check at the last CRC byte asks of a frame (R103). -/
theorem checkFrame_wire {kind : Byte} {payload : List Byte} (hmax : payload.length ≤ Config.maxPayload)
    (crc : Word) (k : ReplyKind) (taken : List Byte)
    (h : checkFrame (frameBody kind payload ++ fieldBytes crc) = some (k, taken)) :
    replyKindOf kind = some k ∧ payload.length = k.length ∧ crc = frameCrc kind payload := by
  have hbody := length_frameBody kind payload
  have hkind : (frameBody kind payload ++ fieldBytes crc).getD 0 0 = kind := rfl
  have hhi : (frameBody kind payload ++ fieldBytes crc).getD (3 + payload.length) 0 = hiByte crc := by
    rw [List.getD_append_right _ _ _ _ hbody.le, hbody, Nat.sub_self]; rfl
  have hlo : (frameBody kind payload ++ fieldBytes crc).getD (4 + payload.length) 0 = loByte crc := by
    rw [List.getD_append_right _ _ _ _ (by omega), hbody, Nat.add_sub_add_right]; rfl
  unfold checkFrame at h
  simp only [bodyLength_frame kind hmax, hkind, hhi, hlo, wordOf_bytes, List.take_left' hbody] at h
  split at h
  · cases h
  next k' hk' =>
    split at h
    next hgood =>
      cases h
      exact ⟨hk', hgood.1, hgood.2.symm⟩
    next => cases h

theorem receiveInFrame_of_bad {bytes : List Byte} (hlength : 5 + bodyLength bytes ≤ bytes.length)
    (hbad : checkFrame bytes = none) (s : State) :
    receiveInFrame bytes s = countBadFrame (setReceiver (.hunting false) s) := by
  unfold receiveInFrame
  rw [if_neg (by omega), if_neg (by omega : ¬ bytes.length < 5 + bodyLength bytes), hbad, ite_self]

/-- A whole frame that the check refuses is counted, and the receiver hunts again (R103). -/
theorem receive_wire_bad {kind : Byte} {payload : List Byte} {crc : Word}
    (hmax : payload.length ≤ Config.maxPayload)
    (hbad : checkFrame (frameBody kind payload ++ fieldBytes crc) = none) {s : State} (hs : Hunting s) :
    receive (wire kind payload crc) s = countBadFrame (setReceiver (.hunting false) s) := by
  have hbody := length_frameBody kind payload
  have hlength := bodyLength_frame kind hmax
  have hwire : wire kind payload crc = (List.replicate 4 preambleByte ++ [startByte]) ++
      ((frameBody kind payload ++ [hiByte crc]) ++ [loByte crc]) := by
    rw [List.append_assoc (frameBody kind payload)]
    exact List.append_assoc ..
  have hopen : FrameOpen (frameBody kind payload ++ [hiByte crc]) := by
    refine .inr ⟨(hlength _).trans_le hmax, ?_⟩
    rw [hlength, List.length_append, hbody, List.length_singleton]
    omega
  rw [hwire, receive_append, receive_preamble_start 3 hs, receive_frame_last hopen, receiveInFrame_of_bad]
  · rfl
  · rw [List.append_assoc, hlength, List.length_append, hbody]
    change 5 + payload.length ≤ 3 + payload.length + 2
    omega
  · rw [List.append_assoc]
    exact hbad

/-- The kind, the length and the CRC that a valid frame has (R103, R165, R166). -/
theorem bad_of_wrong {kind : Byte} {payload : List Byte} {crc : Word}
    (hmax : payload.length ≤ Config.maxPayload)
    (h : kind ∉ [(0x20 : Byte), 0x21, 0x22, 0x23] ∨ (kind = 0x20 ∧ payload.length ≠ 0) ∨
      (kind = 0x21 ∧ payload.length ≠ 2) ∨ (kind = 0x22 ∧ payload.length ≠ 2) ∨
      (kind = 0x23 ∧ payload.length ≠ 3) ∨ crc ≠ frameCrc kind payload) :
    checkFrame (frameBody kind payload ++ fieldBytes crc) = none := by
  cases hcheck : checkFrame (frameBody kind payload ++ fieldBytes crc) with
  | none => rfl
  | some x =>
    obtain ⟨k, taken⟩ := x
    obtain ⟨hkind, hlength, hcrc⟩ := checkFrame_wire hmax crc k taken hcheck
    have hcode : kind = k.code := by
      unfold replyKindOf at hkind
      split_ifs at hkind
      all_goals
        cases hkind
        assumption
    subst hcode
    cases k <;> simp [ReplyKind.code, hcrc, hlength, ReplyKind.length] at h

end Sys2Proof.Machine
end

section
/-! PROOF. The panel, power-on, the routing of a closed form, and the print link's events. -/

namespace Sys2Proof
open Sys2Proof.Machine Sys2Proof.Claims

/-- Settles O24: the layout and the pending sheet choose the route, and each entry is `entered`. -/
theorem closeRoutes : Obligations.CloseRoutes := fun _ f _ =>
  ⟨fun hone => routeClose_oneUp hone f, fun htwo hnone => routeClose_first htwo hnone f,
    fun _ htwo hsome => routeClose_second htwo hsome f⟩

/-- Settles O31: the power-on values by evaluation; nothing waits, nothing is queued and every channel is OFFLINE,
which is what the invariants ask. -/
theorem resetState : Obligations.ResetState := by
  have hch : ∀ ch : ChannelId, State.reset.ch ch = Channel.powerOn := fun ch => by cases ch <;> rfl
  have hsound : SoundBut none State.reset := (powerOn_held 0 State.reset).chans
  refine ⟨hch, ⟨rfl, rfl, rfl, rfl, rfl, rfl, rfl, rfl, rfl, rfl⟩, rfl, fun _ => rfl, rfl, rfl, rfl, rfl, rfl, rfl,
    rfl, rfl, fun i hi => ?_, fun g hg => ?_, rfl, ⟨rfl, (soundBut_none_iff _).mp hsound, ?_, ?_, ?_, ?_⟩,
    ⟨?_, ?_, ?_, ?_⟩, ?_⟩
  · change (List.replicate 256 TransEntry.unprintable).getD i .blank = _
    rw [List.getD_eq_getElem _ _ (by rwa [List.length_replicate]), List.getElem_replicate]
  · change ((List.range 64).map (BitVec.ofNat 16)).getD g _ = _
    simp [List.getD_eq_getElem?_getD, hg]
  · exact ⟨List.nodup_nil, fun ch _ => by cases ch <;> decide⟩
  · refine ⟨List.nodup_nil, fun ch _ => ?_, fun ch _ => by cases ch <;> decide⟩
    rw [inMoving_iff, hch]
    exact ⟨nofun, nofun⟩
  · exact ⟨Nat.zero_le _, nofun⟩
  · exact ⟨nofun, by simp [State.reset, LinkCtl.powerOn], nofun⟩
  · exact ⟨by decide, by decide, by decide, by decide⟩
  · unfold BindingOk
    decide
  · exact ⟨reset_shadow_wf, nofun⟩
  · exact ⟨by decide, by decide⟩
  · exact ⟨List.length_replicate, by decide, List.length_replicate⟩

/-- Settles O32: the base is the one the straps name, and the rest is the state after reset. -/
theorem powerOn : Obligations.PowerOn := fun straps _ => ⟨setupBase straps, setupBase_toNat straps, rfl⟩

/-- Settles O40: a press is recognized only from OPEN; each state's answer is a row of R157 or R158. -/
theorem stopAndStart : Obligations.StopAndStart := by
  have hstart : ∀ s : State, s.panel.startSwitch = .opened →
      exec .start s = .next (startEvent s.panel.selector (setContact .start .closed s)) := by
    intro s hopen
    change Host.Outcome.next (press .start startEvent s) = _
    rw [press, show s.panel.contact .start = .opened from hopen]
  refine ⟨fun s hopen => ?_, fun s hopen => ?_, fun s hclosed => ?_, fun s hclosed => ?_⟩
  · change Host.Outcome.next (press .stop stopChannel s) = _
    rw [press, show s.panel.contact .stop = .opened from hopen]
    rfl
  · intro t
    have ht : startChannel s.panel.selector (setContact .start .closed s) = t := by
      refine modCh_congr (s := setContact .start .closed s) ?_
      generalize (setContact .start .closed s).ch s.panel.selector = c
      obtain ⟨st⟩ := c
      cases st <;> rfl
    refine ⟨fun hother => ?_, fun sh rest hwaits hqueue => ?_⟩
    · rw [hstart s hopen, startEvent, ht]
      exact congrArg Host.Outcome.next (if_neg hother)
    · rw [hstart s hopen, startEvent, ht]
      exact congrArg Host.Outcome.next (startLink_waiting (s := t) hwaits hqueue)
  · change Host.Outcome.next (press .stop stopChannel s) = _
    rw [press, show s.panel.contact .stop = .closed from hclosed]
  · change Host.Outcome.next (press .start startEvent s) = _
    rw [press, show s.panel.contact .start = .closed from hclosed]

/-- Settles O42: neither is an event for a channel; a closed switch is no press. -/
theorem selectorAndSwitch : Obligations.SelectorAndSwitch := by
  refine ⟨fun _ _ => rfl, fun _ => rfl, fun _ => rfl, fun _ => rfl, fun s hclosed => ?_⟩
  change Host.Outcome.next (press .eject ejectChannel s) = _
  rw [press, show s.panel.contact .eject = .closed from hclosed]

/-- Settles O44: the tick is a loss or counts; what a timer's end brings is the rest of its tick. -/
theorem linkTicks : Obligations.LinkTicks := by
  intro s
  refine ⟨fun hdown => ⟨?_, ?_⟩, fun hup hsilent => ⟨?_, ?_, ?_⟩, fun hheard => ?_, fun hheard hstate => ?_,
    fun hheard hstate hmore => ?_, fun hheard hstate hmore => ⟨?_, ?_⟩, fun sh rest hheard hstate hlast hqueue hleft => ?_⟩
  · exact congrArg Host.Outcome.next (tickLink_down hdown)
  · exact if_neg fun h => ((tickLoses_iff s).mp h).1 hdown
  · exact congrArg Host.Outcome.next (tickLink_loss ((tickLoses_iff s).mpr ⟨hup, hsilent⟩))
  · have hloss := (tickLoses_iff s).mpr ⟨hup, hsilent⟩
    exact (if_pos hloss).trans (congrArg Host.Outcome.next (tickLink_loss hloss))
  · have hloss := (tickLoses_iff s).mpr ⟨hup, hsilent⟩
    exact if_neg fun h => by simp [((tickEndsBackoff_iff s).mp h).2.1] at hloss
  · exact if_neg (by simp [tickLoses_eq_false hheard])
  · exact congrArg Host.Outcome.next (tickLink_untimed hstate (tickLoses_eq_false hheard))
  · refine congrArg Host.Outcome.next ((tickLink_awaiting hstate (tickLoses_eq_false hheard)).trans ?_)
    exact if_neg fun h => by have := ((tickExpires_iff s).mp h).2.2; omega
  · refine congrArg Host.Outcome.next ((tickLink_backoff hstate (tickLoses_eq_false hheard)).trans ?_)
    exact if_neg fun h => by have := ((tickEndsBackoff_iff s).mp h).2.2; omega
  · exact if_neg fun h => by have := ((tickEndsBackoff_iff s).mp h).2.2; omega
  · have hends := (tickEndsBackoff_iff s).mpr ⟨hstate, tickLoses_eq_false hheard, by omega⟩
    refine (if_pos hends).trans (congrArg Host.Outcome.next ?_)
    rw [tickLink_backoff hstate (tickLoses_eq_false hheard), if_pos hends, hlast]
    exact (resendSheet_eq (s := { s with link := { s.link with
      silence := s.link.silence + 1, backoffTimer := 0 } }) hqueue hleft).trans (begins_withLink ..)

/-- Settles O45: the reply is life and then a failure of the head; the expiry is the failure in the tick. -/
theorem failedAttempt : Obligations.FailedAttempt := by
  intro sh rest s hstate hqueue
  refine ⟨fun hs => ?_, fun hheard hlast => ?_, fun hmore => ?_⟩
  · refine congrArg Host.Outcome.next ((receive_reply (k := .busy) (more := []) (by decide) rfl hs).trans ?_)
    rw [takeLife_of_up (by simp [setReceiver, hstate]) (by simp [setReceiver, hstate])]
    unfold takeReply
    simp only [setReceiver, hstate, hqueue, if_true]
    rw [failAttempt_eq (sh := sh) (rest := rest) rfl]
    simp [failed, alive, hstate]
  · have hends := (tickExpires_iff s).mpr ⟨hstate, tickLoses_eq_false hheard, by omega⟩
    refine (if_pos hends).trans (congrArg Host.Outcome.next ?_)
    rw [tickLink_awaiting hstate (tickLoses_eq_false hheard), if_pos hends, hlast]
    exact failAttempt_eq (s := { s with link := { s.link with
      silence := s.link.silence + 1, replyTimer := 0 } }) hqueue
  · exact if_neg fun h => by have := ((tickExpires_iff s).mp h).2.2; omega

/-- Settles O46: a PULSE frame is life and nothing more. -/
theorem pulseIsLife : Obligations.PulseIsLife := by
  intro s hs
  have hlife : exec .pulse s = .next (takeLife (setReceiver (.hunting false) s)) :=
    congrArg Host.Outcome.next (receive_frameBytes (k := .pulse) (payload := []) rfl hs)
  rw [hlife]
  refine ⟨fun hdown => ?_, fun htraining hcount => ?_, fun htraining hcount => ?_, fun hdown htraining => ?_⟩
  · exact congrArg Host.Outcome.next (takeLife_of_down (s := setReceiver _ s) hdown)
  · exact congrArg Host.Outcome.next (takeLife_of_training (s := setReceiver _ s) htraining hcount)
  · exact congrArg Host.Outcome.next ((takeLife_of_trained (s := setReceiver (.hunting false) s) htraining hcount).trans
      (begins_withLink ..))
  · exact congrArg Host.Outcome.next (takeLife_of_up (s := setReceiver _ s) hdown htraining)

/-- Settles O49: the last CRC byte finds the fault, or the length's second byte does. -/
theorem badFrame : Obligations.BadFrame := by
  refine ⟨fun kind payload crc s hs hlength hwrong => ?_, fun kind length s hs hlong => ?_⟩
  · exact congrArg Host.Outcome.next (receive_wire_bad hlength (bad_of_wrong hlength hwrong) hs)
  · have hstart := receive_preamble_start 0 hs
    have hrun : receive [0x55, 0xC3, kind, hiByte length, loByte length] s =
        receive ([kind, hiByte length] ++ [loByte length]) (setReceiver (.inFrame []) s) := by
      rw [← hstart, ← receive_append]
      rfl
    have hbody : bodyLength [kind, hiByte length, loByte length] = length.toNat :=
      congrArg BitVec.toNat (wordOf_bytes length)
    have hlong' : Config.maxPayload < bodyLength [kind, hiByte length, loByte length] := by
      rw [hbody]
      exact hlong
    refine congrArg Host.Outcome.next (hrun.trans ?_)
    rw [receive_frame_last (.inl (by simp))]
    unfold receiveInFrame
    rw [if_neg (by simp)]
    exact if_pos hlong'

/-- Settles O50: each frame is the model's bytes in the wire's own layout. -/
theorem rowAndEnd : Obligations.RowAndEnd := by
  intro sh rest s hstate hqueue
  refine ⟨fun l hl => ?_, fun hall => ?_⟩
  · change Host.Outcome.next (sendRow s) = _
    unfold sendRow
    rw [hstate, hqueue]
    dsimp only
    rw [hl]
    dsimp only
    rw [rowFrame, frameBytes_eq_wire]
    rfl
  · change Host.Outcome.next (sendEnd s) = _
    unfold sendEnd
    rw [hstate, hqueue]
    dsimp only
    rw [if_pos hall.le, sheetEndFrame, frameBytes_eq_wire]
    rfl

/-- Settles O51: the head leaves for the memory side when the host is held or absent; a host cycle that nothing
holds goes first. -/
theorem ownCycleStart : Obligations.OwnCycleStart := by
  intro s
  refine ⟨fun hfree hhost => ?_, fun hbusy => ?_, fun c hpres hunheld => ?_⟩
  · have hfirst : s.ownQueue ≠ [] → s.hostFirst = false := by
      intro hwaits
      unfold State.hostFirst
      obtain hnone | hcount | ⟨w, hpres, hwindow, hfetch⟩ := hhost
      · rw [hnone]
      · cases s.presented with
        | none => rfl
        | some c => simp [guardHold_eq_true hwaits hcount]
      · rw [hpres]
        simp [writeHold_eq_true (c := .write w) rfl hwindow hfetch]
    refine ⟨fun ch a v rest hqueue => ?_, fun req f rest hqueue hplace => ?_⟩
    · change Host.Outcome.next (startOwnCycle s) = _
      unfold startOwnCycle
      rw [hfree, hqueue]
      dsimp only
      rw [hfirst (by simp [hqueue])]
      rfl
    · change Host.Outcome.next (startOwnCycle s) = _
      unfold startOwnCycle
      rw [hfree, hqueue]
      dsimp only
      rw [hfirst (by simp [hqueue])]
      simp only [OwnEntry.isFetch, grantPlace, hplace]
      rfl
  · change Host.Outcome.next (startOwnCycle s) = _
    unfold startOwnCycle
    split
    next hnone _ => exact absurd hnone hbusy
    next => rfl
  · have hfirst : s.hostFirst = true := by
      simp [State.hostFirst, hpres, guardHold_eq_false hunheld.unguarded,
        writeHold_eq_false hunheld.free hunheld.unmatched]
    change Host.Outcome.next (startOwnCycle s) = _
    unfold startOwnCycle
    split
    · rw [hfirst]
      rfl
    · rfl

/-- Settles O52: the head requester gives its first listed word, and stands again at the tail while it has more. -/
theorem fetchPlaceGrant : Obligations.FetchPlaceGrant := by
  have hplaces : ∀ s : State, s.ownQueue.countP OwnEntry.isFetch < 12 ↔ 0 < s.freeFetchPlaces := by
    intro s
    change _ ↔ 0 < 12 - s.ownQueue.countP OwnEntry.isFetch
    omega
  refine ⟨fun r f more rest s hwait happly hlist hfree => ?_, fun ch op r f more rest s hwait hbusy hstage hlist hfree => ?_,
    fun s hfull => ?_⟩
  · refine congrArg Host.Outcome.next ((if_pos ((hplaces s).mp hfree)).trans ?_)
    unfold grantPlace
    rw [hwait]
    simp only [State.listed, happly, hlist, State.giveListed, List.tail_cons, List.isEmpty_iff]
  · refine congrArg Host.Outcome.next ((if_pos ((hplaces s).mp hfree)).trans ?_)
    unfold grantPlace
    rw [hwait]
    simp only [State.listed, hbusy, hstage, hlist, State.giveListed, List.tail_cons, List.isEmpty_iff,
      State.setStage_busy s ch _ op hbusy]
    rfl
  · refine congrArg Host.Outcome.next (if_neg fun h => ?_)
    have := (hplaces s).mpr h
    omega

end Sys2Proof
end

section
/-! SUPPORT. The movement of an operation: the walk as the carriage's `carried`, its room, the completion that follows
(R14, R19, R48 to R54). -/

namespace Sys2Proof.Machine
open Sys2Proof.Claims

/-! ### The state of a channel set beside its form (R11, R71) -/

/-- The channel in a state of its operation. -/
def Channel.inState (st : ChState) (c : Channel) : Channel := { c with state := st }

theorem entered_inState (ch : ChannelId) (f0 : Form) (f1 : Option Form) (st : ChState) (s : State) :
    entered ch f0 f1 (s.modCh ch (Channel.inState st)) = (entered ch f0 f1 s).modCh ch (Channel.inState st) := by
  cases ch <;> rfl

/-- Where a closed form goes does not hang on the operation's state. -/
theorem routeClose_inState (ch : ChannelId) (f : Form) (st : ChState) (s : State) :
    routeClose ch f (s.modCh ch (Channel.inState st)) = (routeClose ch f s).modCh ch (Channel.inState st) := by
  have hsame : (s.modCh ch (Channel.inState st)).ch ch = Channel.inState st (s.ch ch) := State.ch_modCh_same ..
  cases htwo : (s.ch ch).layout.geo.twoUp with
  | false =>
    rw [routeClose_oneUp (by rw [hsame]; exact htwo), routeClose_oneUp htwo, entered_inState]
  | true =>
    have htwo' : ((s.modCh ch (Channel.inState st)).ch ch).layout.geo.twoUp = true := by rw [hsame]; exact htwo
    cases hpend : (s.ch ch).pendSheet with
    | none =>
      rw [routeClose_first htwo' (by rw [hsame]; exact hpend), routeClose_first htwo hpend]
      simp only [State.modCh_modCh]
      exact modCh_congr rfl
    | some f0 =>
      rw [routeClose_second htwo' (by rw [hsame]; exact hpend), routeClose_second htwo hpend, ← entered_inState]
      simp only [State.modCh_modCh]
      exact congrArg _ (modCh_congr rfl)

theorem carried_inState (ch : ChannelId) (p : Paper) (m : Nat) (st : ChState) (s : State) :
    carried ch p m (s.modCh ch (Channel.inState st)) = (carried ch p m s).modCh ch (Channel.inState st) := by
  unfold carried
  split
  · simp only [State.modCh_modCh]
    exact modCh_congr rfl
  · rw [← routeClose_inState]
    simp only [State.modCh_modCh]
    exact congrArg _ (modCh_congr rfl)

/-! ### What a close leaves alone -/

theorem routeClose_ownQueue (ch : ChannelId) (f : Form) (s : State) :
    (routeClose ch f s).ownQueue = s.ownQueue := by
  unfold routeClose
  split
  · split
    · rfl
    · rw [enterQueue_eq_entered]
      rfl
  · rw [enterQueue_eq_entered]
    rfl

theorem carried_kept (ch : ChannelId) (p : Paper) (m : Nat) (s : State) : PrintKept s (carried ch p m s) := by
  unfold carried
  split
  · exact modCh_kept ..
  · exact (modCh_kept ..).trans (routeClose_kept ..)

theorem carried_ownQueue (ch : ChannelId) (p : Paper) (m : Nat) (s : State) :
    (carried ch p m s).ownQueue = s.ownQueue := by
  unfold carried
  split
  · rfl
  · exact routeClose_ownQueue ..

theorem carried_cellWait (ch : ChannelId) (p : Paper) (m : Nat) (s : State) :
    (carried ch p m s).cellWait = s.cellWait := by
  unfold carried
  split
  · rfl
  · exact routeClose_cellWait ..

theorem wordAddr_of_windows {s t : State} (h : t.windows = s.windows) (r : Role) (k : Nat) :
    t.wordAddr r k = s.wordAddr r k := by
  unfold State.wordAddr
  rw [h]

/-- The registers of an operation that a movement does not touch. -/
structure OpKept (c d : Channel) : Prop where
  state : d.state = c.state
  pendStop : d.pendStop = c.pendStop
  pendEject : d.pendEject = c.pendEject
  tally : d.tally = c.tally

theorem routeClose_opKept (ch : ChannelId) (f : Form) (s : State) :
    OpKept (s.ch ch) ((routeClose ch f s).ch ch) := by
  obtain ⟨sheet, clipped, h⟩ := routeClose_ch ch f s
  rw [h]
  exact ⟨rfl, rfl, rfl, rfl⟩

theorem carried_opKept (ch : ChannelId) (p : Paper) (m : Nat) (s : State) :
    OpKept (s.ch ch) ((carried ch p m s).ch ch) := by
  unfold carried
  split
  · rw [State.ch_modCh_same]
    exact ⟨rfl, rfl, rfl, rfl⟩
  · obtain ⟨hstate, hstop, heject, htally⟩ := routeClose_opKept ch p.form (s.modCh ch (movedOnto p m))
    rw [State.ch_modCh_same] at hstate hstop heject htally
    exact ⟨hstate, hstop, heject, htally⟩

/-! ### The walk (R48, R53) -/

theorem PaperOk.pos_lt {p : Paper} (h : PaperOk p) : p.pos < p.tape.masks.length := by
  obtain ⟨_, hpos, _⟩ := h
  exact hpos

theorem PaperOk.twelve_le {p : Paper} (h : PaperOk p) : 12 ≤ p.tape.masks.length := by
  obtain ⟨⟨hle, _⟩, _⟩ := h
  exact hle

theorem makeMove_stay {w : Walk} (h : w.wrapped = false) (ch : ChannelId) (p : Paper) (s : State) :
    makeMove ch p w s = s.modCh ch fun c =>
      { c with overflow := w.overflow, ch9 := w.ch9, paper := some { p with pos := w.pos } } := by
  unfold makeMove
  simp only [h, Bool.false_eq_true, if_false]

theorem makeMove_wrap {w : Walk} (h : w.wrapped = true) (ch : ChannelId) (p : Paper) (s : State) :
    makeMove ch p w s = routeClose ch p.form (s.modCh ch fun c =>
      { c with
        overflow := w.overflow, ch9 := w.ch9
        paper := some ⟨p.tape, w.pos, Form.opened p.tape.length 0⟩ }) := by
  unfold makeMove
  simp only [h, if_true]

theorem makeMove_eq_carried {p : Paper} (hpos : p.pos < p.tape.masks.length) {m : Nat} (hm : m ≤ p.tape.masks.length) (ch : ChannelId)
    (s : State) : makeMove ch p ((s.ch ch).walk p m) s = carried ch p m s := by
  unfold carried Channel.walk
  by_cases hstay : p.pos + m < p.tape.masks.length
  · rw [if_pos hstay, Walk.run_stay p.tape m _ hstay]
    exact (makeMove_stay rfl ..).trans (modCh_congr rfl)
  · have hover : p.tape.masks.length ≤ p.pos + m := not_lt.mp hstay
    have hturn : p.pos + m < 2 * p.tape.masks.length := by omega
    rw [if_neg hstay, Walk.run_wrap p.tape m ⟨p.pos, (s.ch ch).overflow, (s.ch ch).ch9, false⟩ hpos hover hturn]
    refine (makeMove_wrap rfl ..).trans (congrArg (routeClose ch p.form) (modCh_congr ?_))
    simp only [movedOnto, punchedIn, Nat.zero_add]
    rfl

theorem walk_wrapped {p : Paper} (hpos : p.pos < p.tape.masks.length) {m : Nat} (hm : m ≤ p.tape.masks.length) (c : Channel) :
    (c.walk p m).wrapped = decide (p.tape.masks.length ≤ p.pos + m) := by
  unfold Channel.walk
  by_cases hstay : p.pos + m < p.tape.masks.length
  · rw [Walk.run_stay p.tape m _ hstay]
    exact (decide_eq_false (by omega)).symm
  · have hover : p.tape.masks.length ≤ p.pos + m := not_lt.mp hstay
    have hturn : p.pos + m < 2 * p.tape.masks.length := by omega
    rw [Walk.run_wrap p.tape m ⟨p.pos, c.overflow, c.ch9, false⟩ hpos hover hturn, decide_eq_true hover]

/-! ### Room for a close (R54) -/

theorem roomMet_of_fits {ch : ChannelId} {s : State}
    (h : ((s.ch ch).layout.geo.twoUp = true ∧ (s.ch ch).pendSheet = none) ∨ s.queue.length < 8) (closes : Bool) :
    roomMet ch closes s = true := by
  unfold roomMet Channel.closeNeedsPlace
  obtain ⟨htwo, hnone⟩ | hplace := h
  · simp [htwo, hnone]
  · simp [(hasPlace_iff s).mpr hplace]

theorem roomMet_of_full {ch : ChannelId} {s : State}
    (h : (s.ch ch).layout.geo.twoUp = false ∨ (s.ch ch).pendSheet.isSome = true) (hfull : 8 ≤ s.queue.length) :
    roomMet ch true s = false := by
  have hplace : s.hasPlace = false := by
    rw [← Bool.not_eq_true, hasPlace_iff]
    omega
  unfold roomMet Channel.closeNeedsPlace
  obtain h | h := h <;> simp [h, hplace]

theorem roomMet_of_roomFor {p : Paper} (hpos : p.pos < p.tape.masks.length) {m : Nat} (hm : m ≤ p.tape.masks.length)
    {ch : ChannelId} {s : State} (h : RoomFor ch p m s) : roomMet ch ((s.ch ch).walk p m).wrapped s = true := by
  obtain hstay | ⟨_, hfits⟩ := h
  · rw [walk_wrapped hpos hm, decide_eq_false (by omega)]
    rfl
  · exact roomMet_of_fits hfits _

theorem settleFrom_settled {n : Nat} {s : State} (h : s.cellWait = [] ∨ s.freeCells = n) : settleFrom n s = s := by
  obtain h | h := h
  · exact settleFrom_none h
  · exact settleFrom_same h.le

theorem carried_settled {p : Paper} {m : Nat} {ch : ChannelId} {s : State} (h : RoomFor ch p m s) :
    (carried ch p m s).cellWait = [] ∨ (carried ch p m s).freeCells = s.freeCells := by
  obtain hstay | ⟨hnone, _⟩ := h
  · refine .inr ?_
    unfold carried
    rw [if_pos hstay]
    rfl
  · exact .inl ((carried_cellWait ..).trans hnone)

/-! ### Completion (R14, R19) -/

theorem requestTally_eq (ch : ChannelId) (s : State) :
    requestTally ch s =
      { s with ownQueue := withTally ch (s.wordAddr (.control ch) 3) (s.ch ch).tally s.ownQueue } := by
  unfold requestTally withTally
  dsimp only
  split <;> rfl

theorem applyPending_none {ch : ChannelId} {s : State} (hstate : (s.ch ch).state = .idle)
    (hstop : (s.ch ch).pendStop = false) (heject : (s.ch ch).pendEject = false) : applyPending ch s = s := by
  unfold applyPending
  rw [heject, if_neg (by simp)]
  refine (modCh_congr (g := id) ?_).trans (State.setCh_ch_self s ch)
  generalize s.ch ch = c at hstate hstop
  obtain ⟨st⟩ := c
  cases hstate
  cases hstop
  rfl

/-- A completion with no panel action pending, of an operation that placed its line. -/
theorem complete_placed {ch : ChannelId} {out : OpOutcome} {op : Op} {s : State} (hbusy : (s.ch ch).state = .busy op)
    (hstop : (s.ch ch).pendStop = false) (heject : (s.ch ch).pendEject = false)
    (hplaced : (op.kind.isPrint && op.linePlaced) = true) :
    complete ch out s = { s.modCh ch (fun c => c.completed op out) with
      ownQueue := withTally ch (s.wordAddr (.control ch) 3) ((s.ch ch).tally + 1) s.ownQueue } := by
  have htally : (Channel.completed (s.ch ch) op out).tally = (s.ch ch).tally + 1 := if_pos hplaced
  unfold complete
  rw [hbusy]
  dsimp only
  rw [if_pos hplaced, requestTally_eq, State.ch_modCh_same, htally]
  split
  · rfl
  next hhalts =>
    have hch : ∀ q, State.ch { s.modCh ch (fun c => c.completed op out) with ownQueue := q } ch =
        (s.ch ch).completed op out := fun q => by
      rw [State.ch_with_ownQueue, State.ch_modCh_same]
    refine applyPending_none ?_ ?_ ?_ <;> rw [hch]
    · exact if_neg hhalts
    · simp [Channel.completed, hstop]
    · simp [Channel.completed, heject]

theorem completed_normal (c : Channel) (op : Op) :
    c.completed op .normal =
      { finished op.ie c with tally := if op.kind.isPrint && op.linePlaced then c.tally + 1 else c.tally } := by
  simp [Channel.completed, finished, OpOutcome.halts]

/-- The normal end of an operation that placed no line. -/
theorem complete_done {ch : ChannelId} {op : Op} {s : State} (hbusy : (s.ch ch).state = .busy op)
    (hstop : (s.ch ch).pendStop = false) (heject : (s.ch ch).pendEject = false)
    (hplaced : (op.kind.isPrint && op.linePlaced) = false) :
    complete ch .normal s = s.modCh ch (finished op.ie) := by
  rw [complete_quiet hbusy hstop heject hplaced]
  refine modCh_congr ?_
  rw [completed_normal, if_neg (by simp [hplaced])]
  rfl

/-- The normal end of a print whose line is placed: the tally counts it and is written back. -/
theorem complete_printed {ch : ChannelId} {op : Op} {s : State} (hbusy : (s.ch ch).state = .busy op)
    (hstop : (s.ch ch).pendStop = false) (heject : (s.ch ch).pendEject = false)
    (hplaced : (op.kind.isPrint && op.linePlaced) = true) :
    complete ch .normal s = { s.modCh ch (fun c => { finished op.ie c with tally := c.tally + 1 }) with
      ownQueue := withTally ch (s.wordAddr (.control ch) 3) ((s.ch ch).tally + 1) s.ownQueue } := by
  rw [complete_placed hbusy hstop heject hplaced]
  have hmod : s.modCh ch (fun c => c.completed op .normal) =
      s.modCh ch fun c => { finished op.ie c with tally := c.tally + 1 } := by
    refine modCh_congr ?_
    rw [completed_normal, if_pos hplaced]
  rw [hmod]

/-! ### The move of an operation (R49 to R54) -/

/-- An operation in MOVING stands before a movement of m steps, with no panel action pending. -/
structure Moving (ch : ChannelId) (op : Op) (p : Paper) (m : Nat) (s : State) : Prop where
  busy : (s.ch ch).state = .busy op
  stage : op.stage = .moving none
  notEject : op.kind ≠ .eject
  notLoad : op.kind ≠ .loadTape
  carriage : (s.ch ch).paper = some p
  onTape : p.pos < p.tape.masks.length
  steps : moveSteps op p = some m
  few : m ≤ p.tape.masks.length
  noStop : (s.ch ch).pendStop = false
  noEject : (s.ch ch).pendEject = false

theorem tryMove_carriage {ch : ChannelId} {op : Op} {s : State} (hbusy : (s.ch ch).state = .busy op)
    (hstage : op.stage = .moving none) (heject : op.kind ≠ .eject) (hload : op.kind ≠ .loadTape) :
    tryMove ch s = carriageMove ch op s := by
  unfold tryMove
  rw [hbusy]
  dsimp only
  rw [hstage]
  dsimp only
  split
  next h => exact absurd h heject
  next h => exact absurd h hload
  next => rfl

section
variable {ch : ChannelId} {op : Op} {p : Paper} {m : Nat} {s : State}

theorem Moving.tryMove_eq (h : Moving ch op p m s) (hroom : roomMet ch ((s.ch ch).walk p m).wrapped s = true) :
    tryMove ch s = complete ch .normal (carried ch p m s) := by
  rw [tryMove_carriage h.busy h.stage h.notEject h.notLoad]
  unfold carriageMove
  rw [h.carriage]
  dsimp only
  rw [h.steps]
  dsimp only
  rw [if_pos hroom, makeMove_eq_carried h.onTape h.few]

theorem Moving.tryMove_done (h : Moving ch op p m s) (hroom : roomMet ch ((s.ch ch).walk p m).wrapped s = true)
    (hplaced : (op.kind.isPrint && op.linePlaced) = false) :
    tryMove ch s = (carried ch p m s).modCh ch (finished op.ie) := by
  obtain ⟨hstate, hstop, heject, _⟩ := carried_opKept ch p m s
  rw [h.tryMove_eq hroom]
  exact complete_done (hstate.trans h.busy) (hstop.trans h.noStop) (heject.trans h.noEject) hplaced

theorem Moving.tryMove_printed (h : Moving ch op p m s) (hroom : roomMet ch ((s.ch ch).walk p m).wrapped s = true)
    (hplaced : (op.kind.isPrint && op.linePlaced) = true) :
    tryMove ch s = { (carried ch p m s).modCh ch (fun c => { finished op.ie c with tally := c.tally + 1 }) with
      ownQueue := withTally ch (s.wordAddr (.control ch) 3) ((s.ch ch).tally + 1) s.ownQueue } := by
  obtain ⟨hstate, hstop, heject, htally⟩ := carried_opKept ch p m s
  rw [h.tryMove_eq hroom,
    complete_printed (hstate.trans h.busy) (hstop.trans h.noStop) (heject.trans h.noEject) hplaced, htally,
    carried_ownQueue, wordAddr_of_windows (carried_kept ch p m s).windows]

/-- A move that has room, of an operation that placed no line, completes. -/
theorem Moving.moveOn_done (h : Moving ch op p m s) (hroom : RoomFor ch p m s)
    (hplaced : (op.kind.isPrint && op.linePlaced) = false) :
    moveOn ch s = (carried ch p m s).modCh ch (finished op.ie) := by
  rw [moveOn, h.tryMove_done (roomMet_of_roomFor h.onTape h.few hroom) hplaced]
  exact settleFrom_settled (carried_settled hroom)

/-- A move that has room, of a print whose line is placed, completes and is tallied. -/
theorem Moving.moveOn_printed (h : Moving ch op p m s) (hroom : RoomFor ch p m s)
    (hplaced : (op.kind.isPrint && op.linePlaced) = true) :
    moveOn ch s = { (carried ch p m s).modCh ch (fun c => { finished op.ie c with tally := c.tally + 1 }) with
      ownQueue := withTally ch (s.wordAddr (.control ch) 3) ((s.ch ch).tally + 1) s.ownQueue } := by
  rw [moveOn, h.tryMove_printed (roomMet_of_roomFor h.onTape h.few hroom) hplaced]
  exact settleFrom_settled (carried_settled hroom)

theorem joinRoom_new {x : Claim} (h : x ∉ s.roomWait) : joinRoom x s = { s with roomWait := s.roomWait ++ [x] } := by
  unfold joinRoom
  rw [if_neg (by simpa using h)]

/-- A movement whose close would enter a full queue is not made, whatever panel action is pending (R54). -/
theorem carriageMove_waits (hpaper : (s.ch ch).paper = some p) (hpos : p.pos < p.tape.masks.length)
    (hsteps : moveSteps op p = some m) (hfew : m ≤ p.tape.masks.length) (hover : p.tape.masks.length ≤ p.pos + m)
    (hneeds : (s.ch ch).layout.geo.twoUp = false ∨ (s.ch ch).pendSheet.isSome = true) (hfull : 8 ≤ s.queue.length)
    (hnew : Claim.move ch ∉ s.roomWait) :
    carriageMove ch op s = { s with roomWait := s.roomWait ++ [.move ch] } := by
  unfold carriageMove
  rw [hpaper]
  dsimp only
  rw [hsteps]
  dsimp only
  rw [walk_wrapped hpos hfew, decide_eq_true hover, if_neg (by simp [roomMet_of_full hneeds hfull])]
  exact joinRoom_new hnew

theorem Moving.tryMove_waits (h : Moving ch op p m s) (hover : p.tape.masks.length ≤ p.pos + m)
    (hneeds : (s.ch ch).layout.geo.twoUp = false ∨ (s.ch ch).pendSheet.isSome = true) (hfull : 8 ≤ s.queue.length)
    (hnew : Claim.move ch ∉ s.roomWait) :
    tryMove ch s = { s with roomWait := s.roomWait ++ [.move ch] } := by
  rw [tryMove_carriage h.busy h.stage h.notEject h.notLoad]
  exact carriageMove_waits h.carriage h.onTape h.steps h.few hover hneeds hfull hnew

/-- A move whose close would enter a full queue waits (R54). -/
theorem Moving.moveOn_waits (h : Moving ch op p m s) (hover : p.tape.masks.length ≤ p.pos + m)
    (hneeds : (s.ch ch).layout.geo.twoUp = false ∨ (s.ch ch).pendSheet.isSome = true) (hfull : 8 ≤ s.queue.length)
    (hnew : Claim.move ch ∉ s.roomWait) :
    moveOn ch s = { s with roomWait := s.roomWait ++ [.move ch] } := by
  rw [moveOn, h.tryMove_waits hover hneeds hfull hnew]
  exact settleFrom_same le_rfl

/-- An operation in MOVING stands before a runaway skip, with no panel action pending. -/
structure Runaway (ch : ChannelId) (op : Op) (p : Paper) (s : State) : Prop where
  busy : (s.ch ch).state = .busy op
  stage : op.stage = .moving none
  carriage : (s.ch ch).paper = some p
  steps : moveSteps op p = none
  noStop : (s.ch ch).pendStop = false
  noEject : (s.ch ch).pendEject = false

theorem Runaway.moveOn_eq (h : Runaway ch op p s) :
    moveOn ch s = settleFrom s.freeCells (complete ch .formStop s) := by
  have hsteps := h.steps
  have heject : op.kind ≠ .eject := fun hk => by simp [moveSteps, hk] at hsteps
  have hload : op.kind ≠ .loadTape := fun hk => by simp [moveSteps, hk] at hsteps
  rw [moveOn, tryMove_carriage h.busy h.stage heject hload]
  unfold carriageMove
  rw [h.carriage]
  dsimp only
  rw [hsteps]

theorem completed_formStop {c : Channel} (hstop : c.pendStop = false) (heject : c.pendEject = false) (op : Op) :
    c.completed op .formStop =
      { finished op.ie c with
        state := .halted, formStop := true
        tally := if op.kind.isPrint && op.linePlaced then c.tally + 1 else c.tally } := by
  simp [Channel.completed, finished, OpOutcome.halts, hstop, heject]

/-- A runaway skip-only moves nothing and halts the channel (R51, R52). -/
theorem Runaway.moveOn_done (h : Runaway ch op p s) (hplaced : (op.kind.isPrint && op.linePlaced) = false) :
    moveOn ch s = s.modCh ch fun c => { finished op.ie c with state := .halted, formStop := true } := by
  rw [h.moveOn_eq, complete_quiet h.busy h.noStop h.noEject hplaced]
  refine (settleFrom_same le_rfl).trans (modCh_congr ?_)
  rw [completed_formStop h.noStop h.noEject, if_neg (Bool.eq_false_iff.mp hplaced)]
  rfl

/-- A runaway print-then-skip keeps its line, is tallied, and halts the channel (R51, R52). -/
theorem Runaway.moveOn_printed (h : Runaway ch op p s) (hplaced : (op.kind.isPrint && op.linePlaced) = true) :
    moveOn ch s = { s.modCh ch (fun c =>
        { finished op.ie c with state := .halted, formStop := true, tally := c.tally + 1 }) with
      ownQueue := withTally ch (s.wordAddr (.control ch) 3) ((s.ch ch).tally + 1) s.ownQueue } := by
  have hmod : s.modCh ch (fun c => c.completed op .formStop) = s.modCh ch fun c =>
      { finished op.ie c with state := .halted, formStop := true, tally := c.tally + 1 } := by
    refine modCh_congr ?_
    rw [completed_formStop h.noStop h.noEject, if_pos hplaced]
  rw [h.moveOn_eq, complete_placed h.busy h.noStop h.noEject hplaced, hmod]
  exact settleFrom_same le_rfl

end

/-! ### Skips (R50 to R52) -/

theorem skipSteps_of_lands {p : Paper} {k m : Nat} (h : SkipLands p k m) : skipSteps p.tape k p.pos = some m := by
  obtain ⟨hpos, hle, hpunched, hfirst⟩ := h
  obtain ⟨j, rfl⟩ : ∃ j, m = j + 1 := ⟨m - 1, by omega⟩
  have hfind : (List.range p.tape.length).find?
      (fun j => p.tape.punched k ((p.pos + j + 1) % p.tape.length)) = some j := by
    refine List.find?_range_eq_some.mpr ⟨hpunched, List.mem_range.mpr hle, fun i hi => ?_⟩
    have hmiss := hfirst (i + 1) (by omega) (by omega)
    change (!p.tape.punched k ((p.pos + i + 1) % p.tape.length)) = true
    rw [Bool.not_eq_true']
    exact hmiss
  unfold skipSteps
  rw [hfind]
  rfl

theorem skipSteps_of_never {p : Paper} (hpos : p.pos < p.tape.masks.length) {k : Nat} (h : NeverPunched p k) :
    skipSteps p.tape k p.pos = none := by
  have hlength : 0 < p.tape.length := Nat.zero_lt_of_lt hpos
  unfold skipSteps
  rw [List.find?_eq_none.mpr]
  · rfl
  · intro j _
    rw [Bool.not_eq_true]
    exact h _ (Nat.mod_lt _ hlength)

end Sys2Proof.Machine
end

section
/-! SUPPORT. A GO as it is decoded and accepted (R7 to R11, R161). -/

namespace Sys2Proof.Machine
open Sys2Proof.Claims

/-! ### Command values (R7, R161) -/

theorem decodeGo_clear {v : Word} (h : v.getLsbD 11 = true) : decodeGo v = .clear := if_pos h

theorem decodeGo_loadTape {v : Word} (h11 : v.getLsbD 11 = false) (h12 : v.getLsbD 12 = true) :
    decodeGo v = .loadTape (v.getLsbD 13) := by
  unfold decodeGo
  rw [h11, h12, if_neg (by simp), if_pos rfl]

theorem decodeGo_move {v : Word} (h11 : v.getLsbD 11 = false) (h12 : v.getLsbD 12 = false) :
    decodeGo v = .move (opKindOf v) (v.getLsbD 14) (countOf (opKindOf v) v) (v.getLsbD 13) := by
  unfold decodeGo
  rw [h11, h12, if_neg (by simp), if_neg (by simp)]

theorem opKindOf_eq (v : Word) :
    opKindOf v = if v.getLsbD 7 = true then (if v.getLsbD 6 = true then .skipOnly else .spaceOnly)
      else (if v.getLsbD 6 = true then .printSkip else .printSpace) := by
  unfold opKindOf
  cases v.getLsbD 7 <;> cases v.getLsbD 6 <;> rfl

theorem countOf_space {kind : OpKind} (h : kind.isSkip = false) (v : Word) : countOf kind v = v.toNat % 4 := by
  unfold countOf
  rw [h]
  simp [BitVec.extractLsb'_toNat]

theorem countOf_skip {kind : OpKind} (h : kind.isSkip = true) (v : Word) : countOf kind v = v.toNat % 16 := by
  unfold countOf
  rw [h]
  simp [BitVec.extractLsb'_toNat]

theorem isSkip_opKindOf (v : Word) : (opKindOf v).isSkip = v.getLsbD 6 := by
  rw [opKindOf_eq]
  cases v.getLsbD 7 <;> cases v.getLsbD 6 <;> rfl

/-- A move's count as its GO gives it (R7, R161). -/
def moveCount (v : Word) : Nat := if v.getLsbD 6 = true then v.toNat % 16 else v.toNat % 4

theorem countOf_opKindOf (v : Word) : countOf (opKindOf v) v = moveCount v := by
  unfold moveCount
  split
  next h => exact countOf_skip ((isSkip_opKindOf v).trans h) v
  next h => exact countOf_space ((isSkip_opKindOf v).trans (Bool.eq_false_iff.mpr h)) v

theorem moveCount_space {v : Word} (h : v.getLsbD 6 = false) : moveCount v = v.toNat % 4 :=
  if_neg (Bool.eq_false_iff.mp h)

theorem moveCount_skip {v : Word} (h : v.getLsbD 6 = true) : moveCount v = v.toNat % 16 := if_pos h

theorem countOk_iff (v : Word) :
    countOk (opKindOf v) (moveCount v) = true ↔
      (v.getLsbD 6 = true → 1 ≤ v.toNat % 16 ∧ v.toNat % 16 ≤ 12) := by
  unfold countOk moveCount
  rw [isSkip_opKindOf]
  cases v.getLsbD 6 <;> simp

/-! ### A GO taken or refused (R8 to R10) -/

theorem takeGo_clear {v : Word} (h : v.getLsbD 11 = true) (ch : ChannelId) (s : State) :
    takeGo ch v s = goClear ch s := by
  unfold takeGo
  rw [decodeGo_clear h]

theorem takeGo_loadTape {v : Word} (h11 : v.getLsbD 11 = false) (h12 : v.getLsbD 12 = true) (ch : ChannelId)
    (s : State) : takeGo ch v s = goLoad ch (v.getLsbD 13) s := by
  unfold takeGo
  rw [decodeGo_loadTape h11 h12]

theorem takeGo_move {v : Word} (h11 : v.getLsbD 11 = false) (h12 : v.getLsbD 12 = false) (ch : ChannelId)
    (s : State) :
    takeGo ch v s = goMove ch (opKindOf v) (v.getLsbD 14) (moveCount v) (v.getLsbD 13) s := by
  unfold takeGo
  rw [decodeGo_move h11 h12, countOf_opKindOf]

/-- A CLEAR taken clears the channel's registers, and a tally that was not 0 is written back (R8, R19). -/
theorem goClear_taken {ch : ChannelId} {s : State}
    (h : (s.ch ch).state = .idle ∨ (s.ch ch).state = .stopped ∨ (s.ch ch).state = .halted) :
    goClear ch s = if (s.ch ch).tally = 0 then s.modCh ch Channel.cleared else
      { s.modCh ch Channel.cleared with
        ownQueue := withTally ch (s.wordAddr (.control ch) 3) 0 s.ownQueue } := by
  have hrequest : requestTally ch (s.modCh ch Channel.cleared) = { s.modCh ch Channel.cleared with
      ownQueue := withTally ch (s.wordAddr (.control ch) 3) 0 s.ownQueue } := by
    rw [requestTally_eq, State.ch_modCh_same]
    rfl
  have hgo : goClear ch s = if (s.ch ch).tally = 0 then s.modCh ch Channel.cleared else
      requestTally ch (s.modCh ch Channel.cleared) := by
    unfold goClear
    obtain h | h | h := h <;> rw [h]
  rw [hgo, hrequest]

theorem goClear_busy {ch : ChannelId} {op : Op} {s : State} (h : (s.ch ch).state = .busy op) :
    goClear ch s = refuseGo ch s := by
  unfold goClear
  rw [h]

theorem goLoad_refused {ch : ChannelId} {s : State} (hidle : (s.ch ch).state ≠ .idle)
    (honline : (s.ch ch).state ≠ .offline) (ie : Bool) : goLoad ch ie s = refuseGo ch s := by
  unfold goLoad
  split
  next h => exact absurd h hidle
  next h => exact absurd h honline
  next => rfl

/-- What a move's GO asks of its channel (R10). -/
def MoveTakes (kind : OpKind) (count : Nat) (c : Channel) : Prop :=
  c.state = .idle ∧ c.paper.isSome = true ∧ countOk kind count = true

theorem goMove_refused {ch : ChannelId} {kind : OpKind} {count : Nat} {s : State}
    (h : ¬ MoveTakes kind count (s.ch ch)) (honline : (s.ch ch).state ≠ .offline) (vp ie : Bool) :
    goMove ch kind vp count ie s = refuseGo ch s := by
  unfold goMove
  split
  next hidle =>
    rw [if_neg]
    intro hboth
    rw [Bool.and_eq_true] at hboth
    exact h ⟨hidle, hboth⟩
  next hoff => exact absurd hoff honline
  next => rfl

theorem goMove_taken {ch : ChannelId} {kind : OpKind} {count : Nat} {s : State}
    (h : MoveTakes kind count (s.ch ch)) (vp ie : Bool) :
    goMove ch kind vp count ie s =
      if kind.isPrint then beginLine ch vp (startOp ch (hostOp kind vp count ie) s)
      else moveOn ch (startOp ch (hostOp kind vp count ie) s) := by
  obtain ⟨hidle, hpaper, hcount⟩ := h
  unfold goMove
  rw [hidle]
  dsimp only
  rw [if_pos (by rw [hpaper, hcount]; rfl)]

/-! ### The state in which the operation runs -/

theorem startOp_eq (ch : ChannelId) (op : Op) (s : State) :
    startOp ch op s = State.modCh { s.modCh ch (fun c => { c with runOutDue := false }) with
      roomWait := s.roomWait.filter fun x => decide (x ≠ .runOut ch) } ch (Channel.inState (.busy op)) := by
  cases ch <;> rfl

theorem startOp_written (w : BusWrite) (ans : WriteAnswer) (ch : ChannelId) (op : Op) (s : State) :
    startOp ch op ((written w ans s).modCh ch (withCommand w)) =
      (begun w ans ch s).modCh ch (Channel.inState (.busy op)) := by
  cases ch <;> rfl

theorem begun_ch (w : BusWrite) (ans : WriteAnswer) (ch : ChannelId) (s : State) :
    (begun w ans ch s).ch ch = { withCommand w (s.ch ch) with runOutDue := false } := by
  unfold begun
  rw [State.ch_with_roomWait, State.ch_modCh_same, written_ch]

theorem begun_inState_ch (w : BusWrite) (ans : WriteAnswer) (ch : ChannelId) (st : ChState) (s : State) :
    ((begun w ans ch s).modCh ch (Channel.inState st)).ch ch =
      Channel.inState st { withCommand w (s.ch ch) with runOutDue := false } := by
  rw [State.ch_modCh_same, begun_ch]

/-- An accepted print or move GO begins its operation (R10, R11). -/
theorem go_takes_move {w : BusWrite} {ch : ChannelId} {s : State} (h : QuietGo w ch s) {v : Word}
    (hv : newCommand w (s.ch ch) = v) (h11 : v.getLsbD 11 = false) (h12 : v.getLsbD 12 = false)
    (hpaper : (s.ch ch).paper.isSome = true)
    (hcount : v.getLsbD 6 = true → 1 ≤ v.toNat % 16 ∧ v.toNat % 16 ≤ 12) (ans : WriteAnswer) :
    presentWrite w ans s =
      let t := (begun w ans ch s).modCh ch
        (Channel.inState (.busy (opOf v (opKindOf v) (moveCount v) (.moving none))))
      if (opKindOf v).isPrint then beginLine ch (v.getLsbD 14) t else moveOn ch t := by
  subst hv
  have htakes : MoveTakes (opKindOf (newCommand w (s.ch ch))) (moveCount (newCommand w (s.ch ch)))
      (((written w ans s).modCh ch (withCommand w)).ch ch) := by
    rw [State.ch_modCh_same, written_ch]
    exact ⟨h.idle, hpaper, (countOk_iff _).mpr hcount⟩
  rw [presentWrite_go h.toCommandWrite h.go, takeGo_move h11 h12, goMove_taken htakes, startOp_written]
  rfl

/-- An accepted LOAD-TAPE GO begins to take its tape (R9, R11). -/
theorem go_takes_loadTape {w : BusWrite} {ch : ChannelId} {s : State} (h : QuietGo w ch s) {v : Word}
    (hv : newCommand w (s.ch ch) = v) (h11 : v.getLsbD 11 = false) (h12 : v.getLsbD 12 = true) (ans : WriteAnswer) :
    presentWrite w ans s = beginTape ch ((begun w ans ch s).modCh ch
      (Channel.inState (.busy ⟨.loadTape, false, 0, v.getLsbD 13, .moving none, false⟩))) := by
  subst hv
  have hidle : (((written w ans s).modCh ch (withCommand w)).ch ch).state = .idle := by
    rw [State.ch_modCh_same, written_ch]
    exact h.idle
  rw [presentWrite_go h.toCommandWrite h.go, takeGo_loadTape h11 h12]
  unfold goLoad
  rw [hidle]
  dsimp only
  rw [startOp_written]
  rfl

/-- Room for a movement is a matter of the carriage, the layout, the pending sheet, the queue and the wait for
cells. -/
theorem roomFor_congr {ch : ChannelId} {p : Paper} {m : Nat} {s t : State} (h : RoomFor ch p m s)
    (hlayout : (t.ch ch).layout = (s.ch ch).layout) (hpend : (t.ch ch).pendSheet = (s.ch ch).pendSheet)
    (hqueue : t.queue = s.queue) (hcells : t.cellWait = s.cellWait) : RoomFor ch p m t := by
  unfold RoomFor
  rw [hlayout, hpend, hqueue, hcells]
  exact h

theorem roomFor_begun {ch : ChannelId} {p : Paper} {m : Nat} {s : State} (h : RoomFor ch p m s) (w : BusWrite)
    (ans : WriteAnswer) (st : ChState) : RoomFor ch p m ((begun w ans ch s).modCh ch (Channel.inState st)) := by
  refine roomFor_congr h ?_ ?_ rfl rfl <;> rw [begun_inState_ch] <;> rfl

/-- A move's operation stands before its movement at its GO. -/
theorem moving_begun {w : BusWrite} {ch : ChannelId} {s : State} (h : QuietGo w ch s) {p : Paper}
    (hpaper : (s.ch ch).paper = some p) (hp : PaperOk p) {op : Op} {m : Nat} (hstage : op.stage = .moving none)
    (heject : op.kind ≠ .eject) (hload : op.kind ≠ .loadTape) (hsteps : moveSteps op p = some m)
    (hfew : m ≤ p.tape.masks.length) (ans : WriteAnswer) :
    Moving ch op p m ((begun w ans ch s).modCh ch (Channel.inState (.busy op))) := by
  constructor <;> try rw [begun_inState_ch]
  exacts [rfl, hstage, heject, hload, hpaper, hp.pos_lt, hsteps, hfew, h.noStop, h.noEject]

theorem runaway_begun {w : BusWrite} {ch : ChannelId} {s : State} (h : QuietGo w ch s) {p : Paper}
    (hpaper : (s.ch ch).paper = some p) {op : Op} (hstage : op.stage = .moving none)
    (hsteps : moveSteps op p = none) (ans : WriteAnswer) :
    Runaway ch op p ((begun w ans ch s).modCh ch (Channel.inState (.busy op))) := by
  constructor <;> try rw [begun_inState_ch]
  exacts [rfl, hstage, hpaper, hsteps, h.noStop, h.noEject]

/-- The end of an operation leaves no trace of the record that the channel held. -/
theorem finished_inState (ch : ChannelId) (st : ChState) (ie : Bool) (s : State) :
    (s.modCh ch (Channel.inState st)).modCh ch (finished ie) = s.modCh ch (finished ie) := by
  rw [State.modCh_modCh]
  exact modCh_congr rfl

end Sys2Proof.Machine
end

section
/-! PROOF. CLEARs, refused GOs, and the moves without a print. -/

namespace Sys2Proof
open Sys2Proof.Machine Sys2Proof.Claims

/-- Settles O13: the GO is a CLEAR, which every state but BUSY and OFFLINE takes. -/
theorem clearTaken : Obligations.ClearTaken := by
  intro w ans ch s hword hgo h11 hstate t
  change Host.Outcome.next (presentWrite w ans s) = _
  have hch : ((written w ans s).modCh ch (withCommand w)).ch ch = withCommand w (s.ch ch) := by
    rw [State.ch_modCh_same, written_ch]
  have hcleared : ((written w ans s).modCh ch (withCommand w)).modCh ch Channel.cleared = t := by
    rw [State.modCh_modCh]
    refine modCh_congr ?_
    rw [written_ch]
    obtain h | h | h := hstate <;> simp [Channel.cleared, withCommand, h]
  rw [presentWrite_go hword hgo, takeGo_clear h11, goClear_taken (by rw [hch]; exact hstate), hcleared, hch]
  rfl

/-- Settles O14: each of the three kinds of GO has its own test, and each test fails. -/
theorem goRefused : Obligations.GoRefused := by
  intro w ans ch s hword hgo honline hwhy i hi
  have hexec : exec i s = .next (presentWrite w ans s) := by
    simp only [List.mem_cons, List.not_mem_nil, or_false] at hi
    obtain rfl | rfl | rfl | rfl | rfl | rfl := hi <;> rfl
  have hch : ((written w ans s).modCh ch (withCommand w)).ch ch = withCommand w (s.ch ch) := by
    rw [State.ch_modCh_same, written_ch]
  have hrefused : refuseGo ch ((written w ans s).modCh ch (withCommand w)) =
      (written w ans s).modCh ch fun c => { withCommand w c with reject := true } :=
    State.modCh_modCh ..
  rw [hexec, presentWrite_go hword hgo, ← hrefused]
  obtain ⟨h11, op, hbusy⟩ | ⟨h11, h12, hidle⟩ | ⟨h11, h12, hno⟩ := hwhy
  · rw [takeGo_clear h11, goClear_busy (op := op) (by rw [hch]; exact hbusy)]
  · rw [takeGo_loadTape h11 h12, goLoad_refused] <;> rw [hch] <;> assumption
  · rw [takeGo_move h11 h12, goMove_refused] <;> rw [hch]
    · rintro ⟨hidle, hpaper, hcount⟩
      obtain hbusy | hnone | ⟨hskip, hcount'⟩ := hno
      · exact hbusy hidle
      · rw [show (withCommand w (s.ch ch)).paper = none from hnone] at hpaper
        cases hpaper
      · have := (countOk_iff _).mp hcount hskip
        omega
    · exact honline

/-- Settles O17: the space is a movement of its count, which has room. -/
theorem spaceOnly : Obligations.SpaceOnly := by
  intro w ans ch p s h hpaper hp h11 h12 h7 h6 hroom
  change Host.Outcome.next (presentWrite w ans s) = _
  generalize hv : newCommand w (s.ch ch) = v at *
  have hkind : opKindOf v = .spaceOnly := by rw [opKindOf_eq, h7, h6]; rfl
  have hmoving := moving_begun h (op := opOf v .spaceOnly (v.toNat % 4) (.moving none)) hpaper hp rfl nofun nofun rfl
    (show v.toNat % 4 ≤ p.tape.masks.length by have := hp.twelve_le; omega) ans
  rw [go_takes_move h hv h11 h12 (by rw [hpaper]; rfl) (fun h => absurd (h6.symm.trans h) nofun), hkind, moveCount_space h6]
  refine congrArg Host.Outcome.next ((hmoving.moveOn_done (roomFor_begun hroom ..) rfl).trans ?_)
  rw [carried_inState, finished_inState]
  rfl

/-- Settles O18: the skip's search finds its line, or finds none and halts the channel. -/
theorem skipOnly : Obligations.SkipOnly := by
  intro w ans ch p k s h hpaper hp h11 h12 h7 h6 hk hlow hhigh
  change (∀ m, _ → _ → Host.Outcome.next (presentWrite w ans s) = _) ∧
    (_ → Host.Outcome.next (presentWrite w ans s) = _)
  generalize hv : newCommand w (s.ch ch) = v at *
  have hkind : opKindOf v = .skipOnly := by rw [opKindOf_eq, h7, h6]; rfl
  rw [go_takes_move h hv h11 h12 (by rw [hpaper]; rfl) (fun _ => by omega), hkind, moveCount_skip h6, hk]
  refine ⟨fun m hlands hroom => ?_, fun hnever => ?_⟩
  · have hmoving := moving_begun h (op := opOf v .skipOnly k (.moving none)) hpaper hp rfl nofun nofun
      (skipSteps_of_lands hlands) hlands.2.1 ans
    refine congrArg Host.Outcome.next ((hmoving.moveOn_done (roomFor_begun hroom ..) rfl).trans ?_)
    rw [carried_inState, finished_inState]
    rfl
  · have hrunaway := runaway_begun h (op := opOf v .skipOnly k (.moving none)) hpaper rfl
      (skipSteps_of_never hp.pos_lt hnever) ans
    refine congrArg Host.Outcome.next ((hrunaway.moveOn_done rfl).trans ?_)
    rw [State.modCh_modCh]
    rfl

end Sys2Proof
end

section
/-! SUPPORT. Taking a tape whose words are in the shadow, and its installation (R42 to R47). -/

namespace Sys2Proof.Machine
open Sys2Proof.Claims

/-! ### Words in a record (R43) -/

theorem getD_map_range {α : Type} {n i : Nat} (h : i < n) (f : Nat → α) (d : α) :
    ((List.range n).map f).getD i d = f i := by
  simp [List.getD_eq_getElem?_getD, h]

theorem copyWord_holds {s : State} {a : Addr} {v : Word} (h : Holds s.shadow a v) :
    s.copyWord a = ⟨some (hiByte v), some (loByte v), false, false⟩ := by
  obtain ⟨hhi, hlo⟩ := h
  unfold State.copyWord
  rw [hhi, hlo]

theorem value_of_bytes (v : Word) (x y : Bool) :
    TakenWord.value ⟨some (hiByte v), some (loByte v), x, y⟩ = some v :=
  congrArg some (wordOf_bytes v)

theorem maskOf_bytes (v : Word) : maskOf ⟨some (hiByte v), some (loByte v), false, false⟩ = v.extractLsb' 0 12 := by
  unfold maskOf
  rw [value_of_bytes]
  rfl

/-- The words of a LOAD-TAPE are whole in the shadow, and their number is a tape's (R43, R44). -/
structure TapeHeld (words : List Word) (ch : ChannelId) (s : State) : Prop where
  short : 12 ≤ words.length
  long : words.length ≤ 192
  length : Holds s.shadow (s.wordAddr (.tape ch) 0) (BitVec.ofNat 16 words.length)
  masks : ∀ i, i < words.length → Holds s.shadow (s.wordAddr (.tape ch) (i + 1)) (words.getD i 0)

/-- The tape whose lines have the masks of a list of words (R42). -/
def tapeOf (words : List Word) : Tape := ⟨words.map fun v => v.extractLsb' 0 12⟩

theorem tapeOf_length (words : List Word) : (tapeOf words).length = words.length := List.length_map _

theorem newTape_word (s : State) (ch : ChannelId) {i : Nat} (h : i < 193) :
    (s.newTape ch).words.getD i TakenWord.absent = s.copyWord (s.wordAddr (.tape ch) i) :=
  getD_map_range h (fun i => s.copyWord (s.wordAddr (.tape ch) i)) _

theorem maskList_held {words : List Word} {ch : ChannelId} {s : State} (h : TapeHeld words ch s) :
    s.maskList ch words.length (s.newTape ch).words = [] := by
  unfold State.maskList
  rw [List.map_eq_nil_iff, List.filter_eq_nil_iff]
  intro i hi
  have hi := List.mem_range.mp hi
  have hlong := h.long
  rw [newTape_word s ch (by omega), copyWord_holds (h.masks i hi)]
  simp [TakenWord.complete]

theorem tape_held {words : List Word} {ch : ChannelId} {s : State} (h : TapeHeld words ch s)
    {r : TapeRec} (hr : r.words = (s.newTape ch).words) : r.tape words.length = tapeOf words := by
  unfold TapeRec.tape tapeOf
  refine congrArg Tape.mk (List.ext_getElem (by simp) fun i hi _ => ?_)
  have hi : i < words.length := by simpa using hi
  have hlong := h.long
  rw [List.getElem_map, List.getElem_map, List.getElem_range, hr, newTape_word s ch (by omega),
    copyWord_holds (h.masks i hi), maskOf_bytes, List.getD_eq_getElem _ _ hi]

theorem length_word_toNat {words : List Word} (h : words.length ≤ 192) :
    (BitVec.ofNat 16 words.length).toNat = words.length := by
  rw [BitVec.toNat_ofNat]
  omega

/-- TAKING ends once the length is fixed, the list is empty and no fetch is outstanding (R47). -/
theorem goOnTape_ends {r : TapeRec} {n : Nat} (hlength : r.length = some n) (hlist : r.toFetch = [])
    (hout : r.outstanding = 0) (ch : ChannelId) (s : State) :
    goOnTape ch r s = moveOn ch (s.setStage ch (.moving (some (r.tape n)))) := by
  unfold goOnTape
  rw [hlength]
  dsimp only
  rw [hlist, hout]
  rfl

/-- A tape whose words are all there passes to its installation at once (R45 to R47). -/
theorem beginTape_held {words : List Word} {ch : ChannelId} {s : State} (h : TapeHeld words ch s) :
    beginTape ch s = moveOn ch (s.setStage ch (.moving (some (tapeOf words)))) := by
  have hok : tapeLengthOk words.length = true := by
    simp [tapeLengthOk, h.short, h.long]
  unfold beginTape
  dsimp only
  rw [newTape_word s ch (by omega), copyWord_holds h.length, value_of_bytes]
  dsimp only
  unfold fixTape
  rw [length_word_toNat h.long, if_pos hok, maskList_held h]
  rw [goOnTape_ends rfl rfl rfl]
  exact congrArg (fun t => moveOn ch (s.setStage ch (.moving (some t)))) (tape_held h rfl)

/-- A length that is no tape's is refused as soon as it is known (R44). -/
theorem beginTape_refused {len : Word} {ch : ChannelId} {s : State}
    (h : Holds s.shadow (s.wordAddr (.tape ch) 0) len) (hlen : len.toNat < 12 ∨ 192 < len.toNat) :
    beginTape ch s = endOp ch .tapeRefused s := by
  have hbad : ¬ tapeLengthOk len.toNat = true := by
    simp only [tapeLengthOk, Bool.and_eq_true, decide_eq_true_eq]
    omega
  unfold beginTape
  dsimp only
  rw [newTape_word s ch (by omega), copyWord_holds h, value_of_bytes]
  exact if_neg hbad

theorem setStage_inState (ch : ChannelId) (op : Op) (st : Stage) (s : State) :
    (s.modCh ch (Channel.inState (.busy op))).setStage ch st =
      s.modCh ch (Channel.inState (.busy { op with stage := st })) := by
  unfold State.setStage
  rw [State.modCh_modCh]
  exact modCh_congr rfl

/-! ### The installation (R47) -/

/-- The channel with a new tape at position 0, both marks clear and a new form open (R47). -/
def Channel.loaded (t : Tape) (c : Channel) : Channel :=
  { c with overflow := false, ch9 := false, paper := some ⟨t, 0, ⟨t.masks.length, 0, []⟩⟩ }

theorem installTape_eq (ch : ChannelId) (t : Tape) (s : State) :
    installTape ch t s = s.modCh ch (Channel.loaded t) := rfl

theorem loaded_inState (ch : ChannelId) (st : ChState) (t : Tape) (s : State) :
    (s.modCh ch (Channel.inState st)).modCh ch (Channel.loaded t) =
      (s.modCh ch (Channel.loaded t)).modCh ch (Channel.inState st) := by
  rw [State.modCh_modCh, State.modCh_modCh]
  exact modCh_congr rfl

/-- A LOAD-TAPE holds its tape in MOVING, with no panel action pending. -/
structure Loading (ch : ChannelId) (op : Op) (t : Tape) (s : State) : Prop where
  busy : (s.ch ch).state = .busy op
  stage : op.stage = .moving (some t)
  kind : op.kind = .loadTape
  noStop : (s.ch ch).pendStop = false
  noEject : (s.ch ch).pendEject = false

section
variable {ch : ChannelId} {op : Op} {t : Tape} {s : State}

theorem Loading.tryMove_eq (h : Loading ch op t s) : tryMove ch s = loadMove ch t s := by
  unfold tryMove
  rw [h.busy]
  dsimp only
  rw [h.stage, h.kind]

theorem Loading.unplaced (h : Loading ch op t s) : (op.kind.isPrint && op.linePlaced) = false := by
  rw [h.kind]
  rfl

theorem Loading.loaded_opKept (_ : Loading ch op t s) :
    OpKept (s.ch ch) ((s.modCh ch (Channel.loaded t)).ch ch) := by
  rw [State.ch_modCh_same]
  exact ⟨rfl, rfl, rfl, rfl⟩

/-- Over no tape, or over an unused form at position 0, the tape is installed and the operation completes. -/
theorem Loading.moveOn_unused (h : Loading ch op t s)
    (hunused : ∀ p ∈ (s.ch ch).paper, p.pos = 0 ∧ p.form.cellCount = 0) :
    moveOn ch s = s.modCh ch fun c => finished op.ie (c.loaded t) := by
  obtain ⟨hstate, hstop, heject, _⟩ := h.loaded_opKept
  have hmove : loadMove ch t s = complete ch .normal (installTape ch t s) := by
    unfold loadMove
    cases hpaper : (s.ch ch).paper with
    | none => rfl
    | some p => exact if_pos (hunused p hpaper)
  rw [moveOn, h.tryMove_eq, hmove, installTape_eq,
    complete_done (hstate.trans h.busy) (hstop.trans h.noStop) (heject.trans h.noEject) h.unplaced, State.modCh_modCh]
  exact settleFrom_same le_rfl

theorem loadMove_used {p : Paper} (hpaper : (s.ch ch).paper = some p) (hused : 0 < p.pos ∨ 0 < p.form.cellCount) :
    loadMove ch t s =
      if roomMet ch true s then complete ch .normal (routeClose ch p.form (s.modCh ch (Channel.loaded t)))
      else joinRoom (.move ch) s := by
  unfold loadMove
  rw [hpaper]
  exact if_neg (by omega)

/-- Over a used form, with room, that form is closed and routed as the tape is installed (R47, R53). -/
theorem Loading.moveOn_closes (h : Loading ch op t s) {p : Paper} (hpaper : (s.ch ch).paper = some p)
    (hused : 0 < p.pos ∨ 0 < p.form.cellCount) (hnone : s.cellWait = [])
    (hfits : ((s.ch ch).layout.geo.twoUp = true ∧ (s.ch ch).pendSheet = none) ∨ s.queue.length < 8) :
    moveOn ch s = (routeClose ch p.form (s.modCh ch (Channel.loaded t))).modCh ch (finished op.ie) := by
  obtain ⟨hstate, hstop, heject, _⟩ := h.loaded_opKept
  obtain ⟨hstate', hstop', heject', _⟩ := routeClose_opKept ch p.form (s.modCh ch (Channel.loaded t))
  rw [moveOn, h.tryMove_eq, loadMove_used hpaper hused, if_pos (roomMet_of_fits hfits true),
    complete_done ((hstate'.trans hstate).trans h.busy) ((hstop'.trans hstop).trans h.noStop)
      ((heject'.trans heject).trans h.noEject) h.unplaced]
  exact settleFrom_none ((routeClose_cellWait ..).trans hnone)

/-- Over a used form with the queue full, the tape waits and the old one stays (R47, R54). -/
theorem Loading.moveOn_waits (h : Loading ch op t s) {p : Paper} (hpaper : (s.ch ch).paper = some p)
    (hused : 0 < p.pos ∨ 0 < p.form.cellCount)
    (hneeds : (s.ch ch).layout.geo.twoUp = false ∨ (s.ch ch).pendSheet.isSome = true) (hfull : 8 ≤ s.queue.length)
    (hnew : Claim.move ch ∉ s.roomWait) :
    moveOn ch s = { s with roomWait := s.roomWait ++ [.move ch] } := by
  rw [moveOn, h.tryMove_eq, loadMove_used hpaper hused, if_neg (Bool.eq_false_iff.mp (roomMet_of_full hneeds hfull)),
    joinRoom_new hnew]
  exact settleFrom_same le_rfl

/-- A refused tape ends its operation with REJECT (R44, R14). -/
theorem endOp_tapeRefused (hbusy : (s.ch ch).state = .busy op) (hkind : op.kind = .loadTape)
    (hstop : (s.ch ch).pendStop = false) (heject : (s.ch ch).pendEject = false) :
    endOp ch .tapeRefused s = s.modCh ch fun c => finished op.ie { c with reject := true } := by
  have hunplaced : (op.kind.isPrint && op.linePlaced) = false := by
    rw [hkind]
    rfl
  rw [endOp, complete_quiet hbusy hstop heject hunplaced]
  refine (settleFrom_same le_rfl).trans (modCh_congr ?_)
  simp [Channel.completed, finished, OpOutcome.halts, hkind, OpKind.isPrint]

end

theorem loading_begun {w : BusWrite} {ch : ChannelId} {s : State} (h : QuietGo w ch s) (ie : Bool) (t : Tape)
    (ans : WriteAnswer) :
    Loading ch ⟨.loadTape, false, 0, ie, .moving (some t), false⟩ t
      ((begun w ans ch s).modCh ch
        (Channel.inState (.busy ⟨.loadTape, false, 0, ie, .moving (some t), false⟩))) := by
  constructor <;> try rw [begun_inState_ch]
  exacts [rfl, rfl, rfl, h.noStop, h.noEject]

/-- A LOAD-TAPE GO whose words are all in the shadow comes to its installation in one event. -/
theorem go_takes_tape {w : BusWrite} {ans : WriteAnswer} {ch : ChannelId} {s : State} (h : QuietGo w ch s) {v : Word}
    (hv : newCommand w (s.ch ch) = v) (h11 : v.getLsbD 11 = false) (h12 : v.getLsbD 12 = true) {words : List Word}
    (hwords : TapeHeld words ch (written w ans s)) :
    presentWrite w ans s = moveOn ch ((begun w ans ch s).modCh ch
      (Channel.inState (.busy ⟨.loadTape, false, 0, v.getLsbD 13, .moving (some (tapeOf words)), false⟩))) := by
  obtain ⟨hshort, hlong, hlength, hmasks⟩ := hwords
  have hbegin := beginTape_held (words := words) (ch := ch) (s := (begun w ans ch s).modCh ch
    (Channel.inState (.busy ⟨.loadTape, false, 0, v.getLsbD 13, .moving none, false⟩)))
    ⟨hshort, hlong, hlength, hmasks⟩
  rw [setStage_inState] at hbegin
  exact (go_takes_loadTape h hv h11 h12 ans).trans hbegin

end Sys2Proof.Machine
end

section
/-! PROOF. LOAD-TAPE. -/

namespace Sys2Proof
open Sys2Proof.Machine Sys2Proof.Claims

/-- Settles O15: with every word in the shadow TAKING ends at once; over nothing to close the tape goes in. -/
theorem loadTape : Obligations.LoadTape := by
  intro w ans ch len s h h11 h12 hlen
  generalize hv : newCommand w (s.ch ch) = v at *
  change (∀ words, _ → _ → _ → _ → _ → Host.Outcome.next (presentWrite w ans s) = _) ∧
    (_ → Host.Outcome.next (presentWrite w ans s) = _)
  refine ⟨fun words hshort hlong hcount hmasks hunused => ?_, fun hbad => ?_⟩
  · have hlength : BitVec.ofNat 16 words.length = len := by
      rw [hcount]
      exact BitVec.ofNat_toNat ..
    have hheld : TapeHeld words ch (written w ans s) :=
      ⟨hcount ▸ hshort, hcount ▸ hlong, hlength ▸ hlen, fun i hi => hmasks i (hcount ▸ hi)⟩
    rw [go_takes_tape h hv h11 h12 hheld]
    refine congrArg Host.Outcome.next (((loading_begun h _ _ ans).moveOn_unused fun p hp => ?_).trans ?_)
    · rw [begun_inState_ch] at hp
      obtain hnone | ⟨q, hq, hpos, hcells⟩ := hunused
      · change p ∈ (s.ch ch).paper at hp
        rw [hnone] at hp
        cases hp
      · change p ∈ (s.ch ch).paper at hp
        rw [hq] at hp
        cases hp
        exact ⟨hpos, hcells⟩
    · rw [State.modCh_modCh]
      refine modCh_congr ?_
      simp only [Channel.loaded, ← hcount]
      rw [← tapeOf_length words]
      rfl
  · rw [go_takes_loadTape h hv h11 h12, beginTape_refused hlen hbad]
    refine congrArg Host.Outcome.next ((endOp_tapeRefused
      (op := ⟨.loadTape, false, 0, v.getLsbD 13, .moving none, false⟩) ?_ rfl ?_ ?_).trans ?_)
    · rw [begun_inState_ch]
      rfl
    · rw [begun_inState_ch]
      exact h.noStop
    · rw [begun_inState_ch]
      exact h.noEject
    · rw [State.modCh_modCh]
      exact modCh_congr rfl

/-- Settles O16: the form of a used carriage is closed in the installation's event. -/
theorem loadTapeClosesForm : Obligations.LoadTapeClosesForm := by
  intro w ans ch words p s h h11 h12 hshort hlong hlength hmasks hpaper hused hnone hfits
  generalize hv : newCommand w (s.ch ch) = v at *
  have hheld : TapeHeld words ch (written w ans s) := ⟨hshort, hlong, hlength, hmasks⟩
  change Host.Outcome.next (presentWrite w ans s) = _
  rw [go_takes_tape h hv h11 h12 hheld]
  refine congrArg Host.Outcome.next (((loading_begun h _ _ ans).moveOn_closes (p := p) ?_ hused hnone ?_).trans ?_)
  · rw [begun_inState_ch]
    exact hpaper
  · rw [begun_inState_ch]
    exact hfits
  · rw [loaded_inState, routeClose_inState, finished_inState]
    rw [← tapeOf_length words]
    rfl

end Sys2Proof
end

section
/-! SUPPORT. The end of TAKING: translation and shift as the entries of a line's positions, and what becomes of the
line (R31 to R37, R65 to R68). -/

namespace Sys2Proof.Machine
open Sys2Proof.Claims

/-! ### Positions and entries (R32 to R36) -/

/-- What a table entry gives a position (R32). -/
def positionOf : TransEntry → Position
  | .glyph g => .strike g
  | .blank => .blank
  | .unprintable => .unprintable

theorem translate_some (table : List TransEntry) (c : Byte) :
    translate table (some c) = positionOf (table.getD c.toNat .unprintable) := by
  unfold translate
  dsimp only
  cases table.getD c.toNat .unprintable <;> rfl

theorem positionOf_unprintable (e : TransEntry) : positionOf e = .unprintable ↔ e = .unprintable := by
  cases e <;> simp [positionOf]

/-- The record's positions 1 to n translate to given entries, position i + 1 to entry i. -/
def Reads (r : LineRec) (table : List TransEntry) (entry : Nat → TransEntry) (n : Nat) : Prop :=
  ∀ i, i < n → translate table (r.code (i + 1)) = positionOf (entry i)

section
variable {r : LineRec} {table : List TransEntry} {entry : Nat → TransEntry} {n : Nat}

theorem positions_of_reads (h : Reads r table entry n) :
    r.positions table n = (List.range n).map fun i => (i + 1, positionOf (entry i)) := by
  unfold LineRec.positions
  exact List.map_congr_left fun i hi => by rw [h i (List.mem_range.mp hi)]

theorem unprintable_of_reads (h : Reads r table entry n) :
    ((r.positions table n).countP fun x => decide (x.2 = .unprintable)) = entryBad entry n := by
  rw [positions_of_reads h, List.countP_map]
  refine List.countP_congr fun i _ => ?_
  simp [positionOf_unprintable]

theorem strikes_of_reads (h : Reads r table entry n) (c : Channel) :
    shiftedStrikes c.policy c.substitute c.shift (r.positions table n) = entryStrikes entry n c := by
  rw [positions_of_reads h, shiftedStrikes, List.filterMap_map]
  unfold entryStrikes
  refine List.filterMap_congr fun i _ => ?_
  have hcol : ((i + 1 : Nat) : Int) - 1 + c.shift = i + c.shift := by omega
  simp only [Function.comp_apply, hcol]
  cases entry i with
  | glyph g => rfl
  | blank => rfl
  | unprintable => cases c.policy <;> rfl

end

theorem onForm_eq (col : Int) : onForm col = decide (0 ≤ col ∧ col ≤ 159) := by
  unfold onForm
  rw [Bool.decide_and]
  exact congrArg _ (decide_eq_decide.mpr (by omega))

theorem keptStrikes_eq_landing (ks : List (Int × Glyph)) : keptStrikes ks = landing ks := by
  unfold keptStrikes landing
  simp only [onForm_eq]

theorem droppedColumns_eq_missing (ks : List (Int × Glyph)) : droppedColumns ks = missing ks := by
  unfold droppedColumns missing
  simp only [onForm_eq]

/-! ### The end of TAKING (R31 to R37) -/

/-- The channel's counters after a line of given entries has been translated and shifted (R32, R36, R39). -/
def Channel.lineTaken (entry : Nat → TransEntry) (n : Nat) (c : Channel) : Channel :=
  { c with
    unprintable := saturated c.unprintable (entryBad entry n)
    shiftLost := saturated c.shiftLost (missing (entryStrikes entry n c)).length
    lastDropped := match (missing (entryStrikes entry n c)).getLast? with
      | some col => some col
      | none => c.lastDropped }

/-- A print's TAKING has come to its end with given entries. -/
structure LineWhole (ch : ChannelId) (op : Op) (r : LineRec) (entry : Nat → TransEntry) (n : Nat) (s : State) :
    Prop where
  length : r.length = some n
  reads : Reads r s.setup.translation entry n
  busy : (s.ch ch).state = .busy op

/-- The policy CHECK does not refuse the line (R35). -/
def Allowed (r : LineRec) (entry : Nat → TransEntry) (n : Nat) (c : Channel) : Prop :=
  c.policy ≠ .check ∨ (entryBad entry n = 0 ∧ r.lengthDamaged = false)

section
variable {ch : ChannelId} {op : Op} {r : LineRec} {entry : Nat → TransEntry} {n : Nat} {s : State}

/-- The line goes to PLACING with its strikes (R37). -/
theorem LineWhole.endLine_allowed (h : LineWhole ch op r entry n s) (hok : Allowed r entry n (s.ch ch)) :
    endLine ch r s = placeLineNow ch (landing (entryStrikes entry n (s.ch ch)))
      (s.modCh ch fun c => (c.lineTaken entry n).inState
        (.busy { op with stage := .placing (landing (entryStrikes entry n (s.ch ch))) })) := by
  obtain ⟨hlength, hreads, hbusy⟩ := h
  unfold endLine
  dsimp only
  rw [hlength, Option.getD_some, unprintable_of_reads hreads, strikes_of_reads hreads, keptStrikes_eq_landing,
    droppedColumns_eq_missing]
  refine (if_neg ?_).trans (congrArg (placeLineNow ch _) ?_)
  · rintro ⟨hcheck, hbad⟩
    obtain hok | ⟨hzero, hgood⟩ := hok
    · exact hok hcheck
    · rw [hzero, hgood] at hbad
      obtain hbad | hbad := hbad <;> cases hbad
  · unfold State.setStage
    rw [State.modCh_modCh, State.modCh_modCh]
    refine modCh_congr ?_
    rw [hbusy]
    rfl

theorem completed_check (c : Channel) {op : Op} (hplaced : op.linePlaced = false) :
    c.completed op .check =
      { finished op.ie c with state := .halted, check := true, pendStop := false, pendEject := false } := by
  simp [Channel.completed, finished, OpOutcome.halts, hplaced]

theorem complete_check (hbusy : (s.ch ch).state = .busy op) (hplaced : op.linePlaced = false) :
    complete ch .check s = s.modCh ch fun c => c.completed op .check := by
  unfold complete
  rw [hbusy]
  dsimp only
  rw [if_pos (show OpOutcome.check.halts = true from rfl), if_neg (by simp [hplaced])]

/-- Under CHECK the line is refused, counted, and the channel halts (R35). -/
theorem LineWhole.endLine_refused (h : LineWhole ch op r entry n s) (hcheck : (s.ch ch).policy = .check)
    (hbad : 0 < entryBad entry n ∨ r.lengthDamaged = true) (hplaced : op.linePlaced = false) :
    endLine ch r s = lineRefused ch op (entryBad entry n) s := by
  obtain ⟨hlength, hreads, hbusy⟩ := h
  unfold endLine
  dsimp only
  rw [hlength, Option.getD_some, unprintable_of_reads hreads]
  refine (if_pos ⟨hcheck, hbad⟩).trans ?_
  rw [endOp, complete_check (op := op) (by rw [State.ch_modCh_same]; exact hbusy) hplaced, State.modCh_modCh]
  refine Eq.trans (settleFrom_same (le_refl s.freeCells)) (modCh_congr ?_)
  rw [completed_check _ hplaced]
  rfl

end

/-! ### The line placed, or waiting (R65 to R68) -/

section
variable {ch : ChannelId} {op : Op} {p : Paper} {strikes : List Strike} {s : State}

theorem cellsNeeded_eq (h : (s.ch ch).paper = some p) : s.cellsNeeded ch strikes = needed p strikes := by
  unfold State.cellsNeeded
  rw [h]
  rfl

theorem placeLineNow_fits (hbusy : (s.ch ch).state = .busy op) (hpaper : (s.ch ch).paper = some p)
    (hcells : needed p strikes = 0 ∨ (s.cellWait = [] ∧ needed p strikes ≤ s.freeCells)) :
    placeLineNow ch strikes s = moveOn ch { s.modCh ch (Channel.withLine p strikes op) with
      freeCells := s.freeCells - needed p strikes } := by
  unfold placeLineNow
  dsimp only
  rw [cellsNeeded_eq hpaper, if_pos hcells, mergeLine_eq hbusy hpaper]
  rfl

theorem placeLineNow_waits (hpaper : (s.ch ch).paper = some p) (hneed : 0 < needed p strikes)
    (hcells : s.cellWait ≠ [] ∨ s.freeCells < needed p strikes) : placeLineNow ch strikes s = joinCells ch s := by
  unfold placeLineNow
  dsimp only
  rw [cellsNeeded_eq hpaper, if_neg]
  rintro (hzero | ⟨hnone, hfew⟩)
  · omega
  · obtain hsome | hmany := hcells
    · exact hsome hnone
    · omega

end

/-- The state once a line of given entries has been placed whole (R37, R65 to R67). -/
def lineStruck (ch : ChannelId) (entry : Nat → TransEntry) (n : Nat) (p : Paper) (s : State) : State :=
  let strikes := landing (entryStrikes entry n (s.ch ch))
  { s.modCh ch (fun c =>
      { c.lineTaken entry n with
        paper := some (struck p strikes)
        droppedStrikes := saturated c.droppedStrikes (overfull p strikes) }) with
    freeCells := s.freeCells - needed p strikes }

/-- Such a line is on a carriage, and finds its cells (R65, R68). -/
structure LineFits (ch : ChannelId) (op : Op) (r : LineRec) (entry : Nat → TransEntry) (n : Nat) (p : Paper)
    (s : State) : Prop extends LineWhole ch op r entry n s where
  allowed : Allowed r entry n (s.ch ch)
  carriage : (s.ch ch).paper = some p
  cells : needed p (landing (entryStrikes entry n (s.ch ch))) = 0 ∨
    (s.cellWait = [] ∧ needed p (landing (entryStrikes entry n (s.ch ch))) ≤ s.freeCells)
  print : op.kind.isPrint = true
  noStop : (s.ch ch).pendStop = false
  noEject : (s.ch ch).pendEject = false

section
variable {ch : ChannelId} {op : Op} {r : LineRec} {entry : Nat → TransEntry} {n : Nat} {p : Paper} {s : State}

/-- A line that finds its cells is struck, and its operation moves (R65, R66). -/
theorem LineFits.endLine_moves (h : LineFits ch op r entry n p s) :
    endLine ch r s =
      moveOn ch ((lineStruck ch entry n p s).modCh ch (Channel.inState (.busy op.mergedLine))) := by
  have hplace := placeLineNow_fits (ch := ch) (p := p)
    (op := { op with stage := .placing (landing (entryStrikes entry n (s.ch ch))) })
    (s := s.modCh ch fun c => (c.lineTaken entry n).inState
      (.busy { op with stage := .placing (landing (entryStrikes entry n (s.ch ch))) }))
    (by rw [State.ch_modCh_same]; rfl) (by rw [State.ch_modCh_same]; exact h.carriage) h.cells
  refine (h.toLineWhole.endLine_allowed h.allowed).trans (hplace.trans (congrArg (moveOn ch) ?_))
  rw [State.modCh_modCh]
  unfold lineStruck
  cases ch <;> rfl

theorem lineStruck_ch (entry : Nat → TransEntry) (n : Nat) (p : Paper) (st : ChState) (s : State) (ch : ChannelId) :
    ((lineStruck ch entry n p s).modCh ch (Channel.inState st)).ch ch =
      { (s.ch ch).lineTaken entry n with
        state := st
        paper := some (struck p (landing (entryStrikes entry n (s.ch ch))))
        droppedStrikes := saturated (s.ch ch).droppedStrikes
          (overfull p (landing (entryStrikes entry n (s.ch ch)))) } := by
  cases ch <;> rfl

theorem LineFits.moving (h : LineFits ch op r entry n p s) (hpos : p.pos < p.tape.masks.length) {m : Nat}
    (hsteps : moveSteps op p = some m) (hfew : m ≤ p.tape.masks.length) :
    Moving ch op.mergedLine (struck p (landing (entryStrikes entry n (s.ch ch)))) m
      ((lineStruck ch entry n p s).modCh ch (Channel.inState (.busy op.mergedLine))) := by
  have hprint := h.print
  have heject : op.kind ≠ .eject := fun hk => by simp [hk, OpKind.isPrint] at hprint
  have hload : op.kind ≠ .loadTape := fun hk => by simp [hk, OpKind.isPrint] at hprint
  constructor <;> try rw [lineStruck_ch]
  exacts [rfl, heject, hload, hpos, hsteps, hfew, h.noStop, h.noEject]

theorem LineFits.runaway (h : LineFits ch op r entry n p s) (hsteps : moveSteps op p = none) :
    Runaway ch op.mergedLine (struck p (landing (entryStrikes entry n (s.ch ch))))
      ((lineStruck ch entry n p s).modCh ch (Channel.inState (.busy op.mergedLine))) := by
  constructor <;> try rw [lineStruck_ch]
  exacts [rfl, hsteps, h.noStop, h.noEject]

theorem LineFits.tallied (h : LineFits ch op r entry n p s) :
    (op.mergedLine.kind.isPrint && op.mergedLine.linePlaced) = true := by
  change (op.kind.isPrint && true) = true
  rw [h.print]
  rfl

theorem lineStruck_room {m : Nat} (hroom : RoomFor ch p m s) (strikes : List Strike) (st : ChState) :
    RoomFor ch (struck p strikes) m ((lineStruck ch entry n p s).modCh ch (Channel.inState st)) := by
  have hsame := roomFor_congr (t := (lineStruck ch entry n p s).modCh ch (Channel.inState st)) hroom
    (by rw [lineStruck_ch]; rfl) (by rw [lineStruck_ch]; rfl) rfl rfl
  exact hsame

theorem LineFits.endLine_printed (h : LineFits ch op r entry n p s) (hpos : p.pos < p.tape.masks.length) {m : Nat}
    (hsteps : moveSteps op p = some m) (hfew : m ≤ p.tape.masks.length) (hroom : RoomFor ch p m s) :
    endLine ch r s = { (carried ch (struck p (landing (entryStrikes entry n (s.ch ch)))) m
        (lineStruck ch entry n p s)).modCh ch (fun c => { finished op.ie c with tally := c.tally + 1 }) with
      ownQueue := withTally ch (s.wordAddr (.control ch) 3) ((s.ch ch).tally + 1) s.ownQueue } := by
  rw [h.endLine_moves, (h.moving hpos hsteps hfew).moveOn_printed (lineStruck_room hroom ..) h.tallied,
    carried_inState, State.modCh_modCh, lineStruck_ch]
  rfl

theorem LineFits.endLine_runaway (h : LineFits ch op r entry n p s) (hsteps : moveSteps op p = none) :
    endLine ch r s = { (lineStruck ch entry n p s).modCh ch (fun c =>
        { finished op.ie c with state := .halted, formStop := true, tally := c.tally + 1 }) with
      ownQueue := withTally ch (s.wordAddr (.control ch) 3) ((s.ch ch).tally + 1) s.ownQueue } := by
  rw [h.endLine_moves, (h.runaway hsteps).moveOn_printed h.tallied, State.modCh_modCh, lineStruck_ch]
  rfl

end

/-! ### A line whole in the shadow (R24, R25, R27) -/

section
variable {ch : ChannelId} {vp : Bool} {v : Word} {codes : Nat → Byte} {s : State}

theorem page_read (h : LineHeld s.shadow s ch vp v codes) {i : Nat} (hi : i < min v.toNat 160) :
    s.shadow.read (2 * (s.pageAddr ch vp (i / 2)).toNat + i % 2) = some (codes (i + 1)) :=
  h.page (i + 1) (by omega) (by omega)

theorem page_hi (h : LineHeld s.shadow s ch vp v codes) {j : Nat} (hj : 2 * j < min v.toNat 160) :
    (s.copyWord (s.pageAddr ch vp j)).hi = some (codes (2 * j + 1)) := by
  have hread := page_read h hj
  rw [Nat.mul_div_cancel_left _ (by omega), Nat.mul_mod_right] at hread
  exact hread

theorem page_lo (h : LineHeld s.shadow s ch vp v codes) {j : Nat} (hj : 2 * j + 1 < min v.toNat 160) :
    (s.copyWord (s.pageAddr ch vp j)).lo = some (codes (2 * j + 2)) := by
  have hread := page_read h hj
  rw [show (2 * j + 1) / 2 = j by omega, show (2 * j + 1) % 2 = 1 by omega] at hread
  exact hread

/-- The page copied from the shadow at a GO (R24). -/
def copiedPage (ch : ChannelId) (vp : Bool) (s : State) : List TakenWord :=
  (List.range pageWords).map fun w => s.copyWord (s.pageAddr ch vp w)

theorem copiedPage_getD {j : Nat} (hj : j < 80) :
    (copiedPage ch vp s).getD j TakenWord.absent = s.copyWord (s.pageAddr ch vp j) :=
  getD_map_range hj _ _

theorem pageList_held (h : LineHeld s.shadow s ch vp v codes) :
    s.pageList ch vp (min v.toNat 160) (copiedPage ch vp s) = [] := by
  unfold State.pageList
  rw [List.map_eq_nil_iff, List.filter_eq_nil_iff]
  intro j hj
  rw [copiedPage_getD (List.mem_range.mp hj)]
  unfold needsPageWord
  simp only [Bool.or_eq_true, Bool.and_eq_true, decide_eq_true_eq, Option.isNone_iff_eq_none]
  rintro (⟨hneed, hnone⟩ | ⟨hneed, hnone⟩)
  · rw [page_hi h (by omega)] at hnone
    cases hnone
  · rw [page_lo h (by omega)] at hnone
    cases hnone

/-- The line record of a GO that finds its line whole (R24, R25). -/
theorem newLine_held (h : LineHeld s.shadow s ch vp v codes) :
    s.newLine ch vp =
      { length := some (min v.toNat 160), lengthDamaged := false
        lengthWord := s.copyWord (s.wordAddr (.control ch) 2)
        words := copiedPage ch vp s, toFetch := [], outstanding := 0 } := by
  unfold State.newLine
  dsimp only
  rw [copyWord_holds h.length, value_of_bytes]
  unfold State.fixLength
  exact congrArg (fun l => LineRec.mk _ _ _ _ l 0) (pageList_held h)

theorem reads_held (h : LineHeld s.shadow s ch vp v codes) {r : LineRec} (hr : r.words = copiedPage ch vp s)
    (table : List TransEntry) : Reads r table (entryAt table codes) (min v.toNat 160) := by
  intro i hi
  have hword : r.words.getD ((i + 1 - 1) / 2) TakenWord.absent = s.copyWord (s.pageAddr ch vp (i / 2)) := by
    rw [hr, Nat.add_sub_cancel, copiedPage_getD (by omega)]
  have hcode : r.code (i + 1) = some (codes (i + 1)) := by
    unfold LineRec.code
    rw [hword]
    obtain heven | hodd := Nat.mod_two_eq_zero_or_one i
    · rw [if_pos (by omega)]
      have hhi := page_hi h (j := i / 2) (by omega)
      rw [show 2 * (i / 2) + 1 = i + 1 by omega] at hhi
      exact hhi
    · rw [if_neg (by omega)]
      have hlo := page_lo h (j := i / 2) (by omega)
      rw [show 2 * (i / 2) + 2 = i + 1 by omega] at hlo
      exact hlo
  rw [hcode]
  exact translate_some ..

theorem goOnLine_ends {r : LineRec} {n : Nat} (hlength : r.length = some n) (hlist : r.toFetch = [])
    (hout : r.outstanding = 0) (ch : ChannelId) (s : State) : goOnLine ch r s = endLine ch r s := by
  unfold goOnLine
  rw [hlength, hlist, hout]
  rfl

/-- A print's TAKING that finds its line whole ends in the GO's event (R31). -/
theorem beginLine_held (h : LineHeld s.shadow s ch vp v codes) {op : Op} (hbusy : (s.ch ch).state = .busy op) :
    ∃ r : LineRec, r.lengthDamaged = false ∧
      LineWhole ch op r (entryAt s.setup.translation codes) (min v.toNat 160) s ∧
      beginLine ch vp s = endLine ch r s := by
  refine ⟨s.newLine ch vp, ?_, ⟨?_, ?_, hbusy⟩, ?_⟩
  · rw [newLine_held h]
  · rw [newLine_held h]
  · exact reads_held h (by rw [newLine_held h]) _
  · unfold beginLine
    rw [newLine_held h]
    exact goOnLine_ends rfl rfl rfl ..

end

end Sys2Proof.Machine
end

section
/-! PROOF. The prints: placed and moved, refused under CHECK, and the moves that wait for room. -/

namespace Sys2Proof.Machine
open Sys2Proof.Claims

/-- The record of a print or move at its GO. -/
def goOp (v : Word) : Op := opOf v (opKindOf v) (moveCount v) (.moving none)

theorem isPrint_opKindOf {v : Word} (h7 : v.getLsbD 7 = false) : (opKindOf v).isPrint = true := by
  rw [opKindOf_eq, h7]
  cases v.getLsbD 6 <;> rfl

/-- A print GO whose line is whole in the shadow comes to the end of TAKING in its event. -/
theorem go_takes_line {w : BusWrite} {ans : WriteAnswer} {ch : ChannelId} {s : State} (h : QuietGo w ch s) {v : Word}
    (hv : newCommand w (s.ch ch) = v) (h11 : v.getLsbD 11 = false) (h12 : v.getLsbD 12 = false)
    (h7 : v.getLsbD 7 = false) (hpaper : (s.ch ch).paper.isSome = true)
    (hcount : v.getLsbD 6 = true → 1 ≤ v.toNat % 16 ∧ v.toNat % 16 ≤ 12) {len : Word} {codes : Nat → Byte}
    (hheld : LineHeld (shadowHostWrite w ans s.shadow) s ch (v.getLsbD 14) len codes) :
    ∃ r : LineRec, r.lengthDamaged = false ∧
      LineWhole ch (goOp v) r (entryAt s.setup.translation codes) (min len.toNat 160)
        ((begun w ans ch s).modCh ch (Channel.inState (.busy (goOp v)))) ∧
      presentWrite w ans s = endLine ch r ((begun w ans ch s).modCh ch (Channel.inState (.busy (goOp v)))) := by
  obtain ⟨r, hgood, hwhole, hbegin⟩ := beginLine_held (ch := ch) (vp := v.getLsbD 14) (v := len) (codes := codes)
    (s := (begun w ans ch s).modCh ch (Channel.inState (.busy (goOp v)))) ⟨hheld.length, hheld.page⟩
    (op := goOp v) (by rw [begun_inState_ch]; rfl)
  refine ⟨r, hgood, hwhole, ?_⟩
  rw [go_takes_move h hv h11 h12 hpaper hcount]
  exact (if_pos (isPrint_opKindOf h7)).trans hbegin

/-- Such a line that is allowed and finds its cells. -/
theorem go_fits_line {w : BusWrite} {ans : WriteAnswer} {ch : ChannelId} {len : Word} {codes : Nat → Byte} {p : Paper}
    {s : State} (h : PrintGo w ans ch len codes p s) {v : Word} (hv : newCommand w (s.ch ch) = v)
    (h11 : v.getLsbD 11 = false) (h12 : v.getLsbD 12 = false) (h7 : v.getLsbD 7 = false)
    (hcount : v.getLsbD 6 = true → 1 ≤ v.toNat % 16 ∧ v.toNat % 16 ≤ 12) :
    ∃ r : LineRec,
      LineFits ch (goOp v) r (entryAt s.setup.translation codes) (min len.toNat 160) p
        ((begun w ans ch s).modCh ch (Channel.inState (.busy (goOp v)))) ∧
      presentWrite w ans s = endLine ch r ((begun w ans ch s).modCh ch (Channel.inState (.busy (goOp v)))) := by
  obtain ⟨r, hgood, hwhole, hend⟩ := go_takes_line (ans := ans) h.toQuietGo hv h11 h12 h7 (by rw [h.carriage]; rfl)
    hcount (hv ▸ h.held)
  refine ⟨r, { hwhole with
    allowed := ?_, carriage := ?_, cells := ?_, print := isPrint_opKindOf h7, noStop := ?_, noEject := ?_ }, hend⟩
  · rw [begun_inState_ch]
    exact h.printable.imp id fun hzero => ⟨hzero, hgood⟩
  · rw [begun_inState_ch]
    exact h.carriage
  · rw [begun_inState_ch]
    exact h.cells
  · rw [begun_inState_ch]
    exact h.noStop
  · rw [begun_inState_ch]
    exact h.noEject

theorem lineStruck_begun (w : BusWrite) (ans : WriteAnswer) (ch : ChannelId) (codes : Nat → Byte) (n : Nat) (p : Paper)
    (st : ChState) (s : State) :
    lineStruck ch (entryAt s.setup.translation codes) n p ((begun w ans ch s).modCh ch (Channel.inState st)) =
      (linePlaced w ans ch codes n p s).modCh ch (Channel.inState st) := by
  cases ch <;> rfl

theorem strikes_begun (w : BusWrite) (ans : WriteAnswer) (ch : ChannelId) (entry : Nat → TransEntry) (n : Nat)
    (st : ChState) (s : State) :
    entryStrikes entry n (((begun w ans ch s).modCh ch (Channel.inState st)).ch ch) = entryStrikes entry n (s.ch ch) := by
  rw [begun_inState_ch]
  rfl

theorem tally_begun (w : BusWrite) (ans : WriteAnswer) (ch : ChannelId) (st : ChState) (s : State) :
    (((begun w ans ch s).modCh ch (Channel.inState st)).ch ch).tally = (s.ch ch).tally := by
  rw [begun_inState_ch]
  rfl

section
variable {w : BusWrite} {ans : WriteAnswer} {ch : ChannelId} {len : Word} {codes : Nat → Byte} {p : Paper} {s : State}

/-- A print GO whose movement has room places its line, moves and completes. -/
theorem go_prints (h : PrintGo w ans ch len codes p s) (hp : PaperOk p) {v : Word} (hv : newCommand w (s.ch ch) = v)
    (h11 : v.getLsbD 11 = false) (h12 : v.getLsbD 12 = false) (h7 : v.getLsbD 7 = false)
    (hcount : v.getLsbD 6 = true → 1 ≤ v.toNat % 16 ∧ v.toNat % 16 ≤ 12) {m : Nat}
    (hsteps : moveSteps (goOp v) p = some m) (hfew : m ≤ p.tape.masks.length) (hroom : RoomFor ch p m s) :
    presentWrite w ans s =
      { (carried ch (struck p (landing (rawStrikes s.setup.translation codes (min len.toNat 160) (s.ch ch)))) m
          (linePlaced w ans ch codes (min len.toNat 160) p s)).modCh ch
            (fun c => { finished (v.getLsbD 13) c with tally := c.tally + 1 }) with
        ownQueue := withTally ch (s.wordAddr (.control ch) 3) ((s.ch ch).tally + 1) s.ownQueue } := by
  obtain ⟨r, hfits, hend⟩ := go_fits_line h hv h11 h12 h7 hcount
  rw [hend, hfits.endLine_printed hp.pos_lt hsteps hfew (roomFor_begun hroom ..), strikes_begun, tally_begun,
    lineStruck_begun, carried_inState, State.modCh_modCh]
  rfl

/-- A print GO whose skip runs away places its line and halts. -/
theorem go_prints_runaway (h : PrintGo w ans ch len codes p s) {v : Word} (hv : newCommand w (s.ch ch) = v)
    (h11 : v.getLsbD 11 = false) (h12 : v.getLsbD 12 = false) (h7 : v.getLsbD 7 = false)
    (hcount : v.getLsbD 6 = true → 1 ≤ v.toNat % 16 ∧ v.toNat % 16 ≤ 12) (hsteps : moveSteps (goOp v) p = none) :
    presentWrite w ans s =
      { (linePlaced w ans ch codes (min len.toNat 160) p s).modCh ch
          (fun c => { finished (v.getLsbD 13) c with state := .halted, formStop := true, tally := c.tally + 1 }) with
        ownQueue := withTally ch (s.wordAddr (.control ch) 3) ((s.ch ch).tally + 1) s.ownQueue } := by
  obtain ⟨r, hfits, hend⟩ := go_fits_line h hv h11 h12 h7 hcount
  rw [hend, hfits.endLine_runaway hsteps, tally_begun, lineStruck_begun, State.modCh_modCh]
  rfl

/-- A print GO whose movement finds the queue full has placed its line and waits (R54). -/
theorem go_prints_waits (h : PrintGo w ans ch len codes p s) (hp : PaperOk p) {v : Word}
    (hv : newCommand w (s.ch ch) = v) (h11 : v.getLsbD 11 = false) (h12 : v.getLsbD 12 = false)
    (h7 : v.getLsbD 7 = false) (hcount : v.getLsbD 6 = true → 1 ≤ v.toNat % 16 ∧ v.toNat % 16 ≤ 12) {m : Nat}
    (hsteps : moveSteps (goOp v) p = some m) (hfew : m ≤ p.tape.masks.length)
    (hover : p.tape.masks.length ≤ p.pos + m)
    (hneeds : (s.ch ch).layout.geo.twoUp = false ∨ (s.ch ch).pendSheet.isSome = true) (hfull : 8 ≤ s.queue.length)
    (hnew : Claim.move ch ∉ s.roomWait) :
    presentWrite w ans s =
      { (linePlaced w ans ch codes (min len.toNat 160) p s).modCh ch
          (Channel.inState (.busy (goOp v).mergedLine)) with
        roomWait := (s.roomWait.filter fun x => decide (x ≠ .runOut ch)) ++ [.move ch] } := by
  obtain ⟨r, hfits, hend⟩ := go_fits_line h hv h11 h12 h7 hcount
  rw [hend, hfits.endLine_moves, (hfits.moving hp.pos_lt hsteps hfew).moveOn_waits hover ?_ hfull ?_]
  · rw [lineStruck_begun, State.modCh_modCh]
    rfl
  · rw [lineStruck_ch, begun_inState_ch]
    exact hneeds
  · exact fun hmem => hnew (List.mem_of_mem_filter hmem)

end

end Sys2Proof.Machine

namespace Sys2Proof
open Sys2Proof.Machine Sys2Proof.Claims

/-- Settles O19: TAKING ends in the GO's event, the cells are there, and the space has room. -/
theorem printThenSpace : Obligations.PrintThenSpace := by
  intro w ans ch len codes p s h hp h11 h12 h7 h6 hroom
  generalize hv : newCommand w (s.ch ch) = v at *
  have hkind : goOp v = opOf v .printSpace (v.toNat % 4) (.moving none) := by
    rw [goOp, opKindOf_eq, h7, h6, moveCount_space h6]
    rfl
  refine congrArg Host.Outcome.next (go_prints h hp hv h11 h12 h7 (fun h => absurd (h6.symm.trans h) nofun) ?_ ?_ hroom)
  · rw [hkind]
    rfl
  · have := hp.twelve_le
    omega

theorem goOp_printSkip {v : Word} {k : Nat} (h7 : v.getLsbD 7 = false) (h6 : v.getLsbD 6 = true)
    (hk : v.toNat % 16 = k) : goOp v = opOf v .printSkip k (.moving none) := by
  rw [goOp, opKindOf_eq, h7, h6, moveCount_skip h6, hk]
  rfl

/-- Settles O20: as O19, with the steps of the skip's search; a runaway skip comes after the line is placed. -/
theorem printThenSkip : Obligations.PrintThenSkip := by
  intro w ans ch len codes p k s h hp h11 h12 h7 h6 hk hlow hhigh
  generalize hv : newCommand w (s.ch ch) = v at *
  have hkind := goOp_printSkip h7 h6 hk
  refine ⟨fun m hlands hroom => ?_, fun hnever => ?_⟩
  · refine congrArg Host.Outcome.next (go_prints h hp hv h11 h12 h7 (fun _ => by omega) ?_ hlands.2.1 hroom)
    rw [hkind]
    exact skipSteps_of_lands hlands
  · refine congrArg Host.Outcome.next (go_prints_runaway h hv h11 h12 h7 (fun _ => by omega) ?_)
    rw [hkind]
    exact skipSteps_of_never hp.pos_lt hnever

/-- Settles O21: the whole line is read and CHECK refuses it before any strike. -/
theorem checkRefusesLine : Obligations.CheckRefusesLine := by
  intro w ans ch len codes s h hpaper h11 h12 h7 hcount hheld hcheck hbad i hi
  have hexec : exec i s = .next (presentWrite w ans s) := by
    simp only [List.mem_cons, List.not_mem_nil, or_false] at hi
    obtain rfl | rfl := hi <;> rfl
  rw [hexec]
  generalize hv : newCommand w (s.ch ch) = v at *
  obtain ⟨r, _, hwhole, hend⟩ := go_takes_line (ans := ans) h hv h11 h12 h7 hpaper hcount hheld
  rw [hend, hwhole.endLine_refused (by rw [begun_inState_ch]; exact hcheck) (.inl hbad) rfl, lineRefused,
    State.modCh_modCh]
  refine congrArg Host.Outcome.next (modCh_congr ?_)
  rw [begun_ch]
  simp only [finished, Channel.inState, withCommand, h.noStop, h.noEject]
  rfl

/-- Settles O26: each kind of operation comes to its move, and the close has no place. -/
theorem moveWaitsForRoom : Obligations.MoveWaitsForRoom := by
  intro w ans ch p s h hpaper hp h11 hfull hnew hneeds waits
  generalize hv : newCommand w (s.ch ch) = v at *
  have hnew' : Claim.move ch ∉ (begun w ans ch s).roomWait := fun hmem => hnew (List.mem_of_mem_filter hmem)
  have hneeds' : ∀ st, (((begun w ans ch s).modCh ch (Channel.inState st)).ch ch).layout.geo.twoUp = false ∨
      (((begun w ans ch s).modCh ch (Channel.inState st)).ch ch).pendSheet.isSome = true := fun st => by
    rw [begun_inState_ch]
    exact hneeds
  refine ⟨fun h12 h7 => ⟨fun h6 hover => ?_, fun k m h6 hk hlow hhigh hlands hover => ?_⟩,
    fun len codes hprint h12 h7 => ⟨fun h6 hover => ?_, fun k m h6 hk hlow hhigh hlands hover => ?_⟩,
    fun words h12 hshort hlong hlength hmasks hused => ?_⟩
  · change Host.Outcome.next (presentWrite w ans s) = _
    have hkind : opKindOf v = .spaceOnly := by rw [opKindOf_eq, h7, h6]; rfl
    have hmoving := moving_begun h (op := opOf v .spaceOnly (v.toNat % 4) (.moving none)) hpaper hp rfl nofun nofun rfl
      (show v.toNat % 4 ≤ p.tape.masks.length by have := hp.twelve_le; omega) ans
    rw [go_takes_move h hv h11 h12 (by rw [hpaper]; rfl) (fun h => absurd (h6.symm.trans h) nofun), hkind,
      moveCount_space h6]
    exact congrArg Host.Outcome.next (hmoving.moveOn_waits hover (hneeds' _) hfull hnew')
  · change Host.Outcome.next (presentWrite w ans s) = _
    have hkind : opKindOf v = .skipOnly := by rw [opKindOf_eq, h7, h6]; rfl
    have hmoving := moving_begun h (op := opOf v .skipOnly k (.moving none)) hpaper hp rfl nofun nofun
      (skipSteps_of_lands hlands) hlands.2.1 ans
    rw [go_takes_move h hv h11 h12 (by rw [hpaper]; rfl) (fun _ => by omega), hkind, moveCount_skip h6, hk]
    exact congrArg Host.Outcome.next (hmoving.moveOn_waits hover (hneeds' _) hfull hnew')
  · have hkind : goOp v = opOf v .printSpace (v.toNat % 4) (.moving none) := by
      rw [goOp, opKindOf_eq, h7, h6, moveCount_space h6]
      rfl
    refine congrArg Host.Outcome.next ((go_prints_waits hprint hp hv h11 h12 h7
      (fun h => absurd (h6.symm.trans h) nofun) (m := v.toNat % 4) ?_ ?_ hover hneeds hfull hnew).trans ?_)
    · rw [hkind]
      rfl
    · have := hp.twelve_le
      omega
    · rw [hkind]
      rfl
  · have hkind := goOp_printSkip h7 h6 hk
    refine congrArg Host.Outcome.next ((go_prints_waits hprint hp hv h11 h12 h7 (fun _ => by omega) (m := m) ?_
      hlands.2.1 hover hneeds hfull hnew).trans ?_)
    · rw [hkind]
      exact skipSteps_of_lands hlands
    · rw [hkind]
      rfl
  · have hheld : TapeHeld words ch (written w ans s) := ⟨hshort, hlong, hlength, hmasks⟩
    change Host.Outcome.next (presentWrite w ans s) = _
    rw [go_takes_tape h hv h11 h12 hheld]
    exact congrArg Host.Outcome.next ((loading_begun h _ _ ans).moveOn_waits (p := p)
      (by rw [begun_inState_ch]; exact hpaper) hused (hneeds' _) hfull hnew')

end Sys2Proof
end

section
/-! SUPPORT. The wait for cells: the head line retried, and the forced break on an empty queue (R68, R69, R75, R76). -/

namespace Sys2Proof.Machine
open Sys2Proof.Claims

/-! ### The channel with the most (R76) -/

/-- One step of the search for the channel with the most: an equal later value does not displace. -/
def keepMost (value : ChannelId → Option Nat) (best : Option (ChannelId × Nat)) (ch : ChannelId) :
    Option (ChannelId × Nat) :=
  match value ch, best with
  | none, b => b
  | some n, none => some (ch, n)
  | some n, some (b, m) => if m < n then some (ch, n) else some (b, m)

theorem mostOf_eq_foldl (value : ChannelId → Option Nat) :
    mostOf value = (allChannels.foldl (keepMost value) none).map Prod.fst := rfl

/-- The search has come to the channel with the most of a list, the lowest number winning a tie. -/
structure Most (value : ChannelId → Option Nat) (l : List ChannelId) (best : Option (ChannelId × Nat)) : Prop where
  absent : best = none → ∀ u ∈ l, value u = none
  found : ∀ b m, best = some (b, m) → value b = some m ∧
    ∀ u ∈ l, ∀ n, value u = some n → n ≤ m ∧ (u.toNat < b.toNat → n < m)

theorem Most.step {value : ChannelId → Option Nat} {l : List ChannelId} {best : Option (ChannelId × Nat)}
    (h : Most value l best) {ch : ChannelId} (hlater : ∀ u ∈ l, u.toNat < ch.toNat)
    (hfound : ∀ b m, best = some (b, m) → b ∈ l) :
    Most value (l ++ [ch]) (keepMost value best ch) ∧
      ∀ b m, keepMost value best ch = some (b, m) → b ∈ l ++ [ch] := by
  unfold keepMost
  cases hv : value ch with
  | none =>
    refine ⟨⟨fun hb u hu => ?_, fun b m hb => ?_⟩, fun b m hb => List.mem_append_left _ (hfound b m hb)⟩
    · obtain hu | hu := List.mem_append.mp hu
      · exact h.absent hb u hu
      · rwa [List.mem_singleton.mp hu]
    · obtain ⟨hbest, hall⟩ := h.found b m hb
      refine ⟨hbest, fun u hu n hn => ?_⟩
      obtain hu | hu := List.mem_append.mp hu
      · exact hall u hu n hn
      · rw [List.mem_singleton.mp hu, hv] at hn
        cases hn
  | some n =>
    cases best with
    | none =>
      refine ⟨⟨nofun, ?_⟩, ?_⟩
      · rintro b m ⟨⟩
        refine ⟨hv, fun u hu k hk => ?_⟩
        obtain hu | hu := List.mem_append.mp hu
        · rw [h.absent rfl u hu] at hk
          cases hk
        · rw [List.mem_singleton.mp hu, hv] at hk
          cases hk
          exact ⟨le_rfl, fun hlt => absurd hlt (by rw [List.mem_singleton.mp hu]; omega)⟩
      · rintro b m ⟨⟩
        exact List.mem_append_right _ (List.mem_singleton_self _)
    | some best =>
      obtain ⟨b0, m0⟩ := best
      obtain ⟨hbest, hall⟩ := h.found b0 m0 rfl
      dsimp only
      split
      next hmore =>
        refine ⟨⟨nofun, ?_⟩, ?_⟩
        · rintro b m ⟨⟩
          refine ⟨hv, fun u hu k hk => ?_⟩
          obtain hu | hu := List.mem_append.mp hu
          · have := (hall u hu k hk).1
            omega
          · rw [List.mem_singleton.mp hu, hv] at hk
            cases hk
            exact ⟨le_rfl, fun hlt => absurd hlt (by rw [List.mem_singleton.mp hu]; omega)⟩
        · rintro b m ⟨⟩
          exact List.mem_append_right _ (List.mem_singleton_self _)
      next hless =>
        refine ⟨⟨nofun, ?_⟩, ?_⟩
        · rintro b m ⟨⟩
          refine ⟨hbest, fun u hu k hk => ?_⟩
          obtain hu | hu := List.mem_append.mp hu
          · exact hall u hu k hk
          · have hu := List.mem_singleton.mp hu
            subst hu
            rw [hv] at hk
            cases hk
            have hlow := hlater b0 (hfound b0 m0 rfl)
            omega
        · rintro b m ⟨⟩
          exact List.mem_append_left _ (hfound b0 m0 rfl)

theorem most_allChannels (value : ChannelId → Option Nat) :
    Most value allChannels (allChannels.foldl (keepMost value) none) := by
  have h0 : Most value [] none := ⟨fun _ _ hu => absurd hu List.not_mem_nil, nofun⟩
  obtain ⟨h1, f1⟩ := h0.step (ch := .c0) (by simp) nofun
  obtain ⟨h2, f2⟩ := h1.step (ch := .c1) (by simp [ChannelId.toNat]) f1
  obtain ⟨h3, f3⟩ := h2.step (ch := .c2) (by simp [ChannelId.toNat]) f2
  exact (h3.step (ch := .c3) (by simp [ChannelId.toNat]) f3).1

theorem mostOf_isSome {value : ChannelId → Option Nat} {v : ChannelId} (h : (value v).isSome = true) :
    ∃ u, mostOf value = some u ∧ (value u).isSome = true := by
  have hmost := most_allChannels value
  rw [mostOf_eq_foldl]
  cases hbest : allChannels.foldl (keepMost value) none with
  | none =>
    rw [hmost.absent hbest v (mem_allChannels v)] at h
    cases h
  | some best =>
    obtain ⟨b, m⟩ := best
    exact ⟨b, rfl, by rw [(hmost.found b m hbest).1]; rfl⟩

theorem ChannelId.eq_of_toNat {u v : ChannelId} (h : u.toNat = v.toNat) : u = v := by
  cases u <;> cases v <;> simp [ChannelId.toNat] at h ⊢

theorem mostOf_eq_some {value : ChannelId → Option Nat} {v : ChannelId} {n : Nat} (hv : value v = some n)
    (hbest : ∀ u, u ≠ v → ∀ m, value u = some m → m ≤ n ∧ (u.toNat < v.toNat → m < n)) :
    mostOf value = some v := by
  have hmost := most_allChannels value
  rw [mostOf_eq_foldl]
  cases hfold : allChannels.foldl (keepMost value) none with
  | none =>
    rw [hmost.absent hfold v (mem_allChannels v)] at hv
    cases hv
  | some best =>
    obtain ⟨b, m⟩ := best
    obtain ⟨hb, hall⟩ := hmost.found b m hfold
    by_cases hsame : b = v
    · rw [hsame]
      rfl
    · have hle := hall v (mem_allChannels v) n hv
      have hge := hbest b hsame m hb
      have hne : b.toNat ≠ v.toNat := fun h => hsame (ChannelId.eq_of_toNat h)
      omega

/-! ### Sheets that a break makes -/

theorem entered_ch (ch : ChannelId) (f0 : Form) (f1 : Option Form) (s : State) (i : ChannelId) :
    ∃ clipped, ((entered ch f0 f1 s).ch i) = { s.ch i with clipped := clipped } := by
  by_cases hi : i = ch
  · subst hi
    refine ⟨_, Eq.trans ?_ (State.ch_modCh_same s i fun c => { c with
      clipped := saturated c.clipped (clippedCells (s.ch i).layout.geo false f0 +
        (f1.map (clippedCells (s.ch i).layout.geo true)).getD 0) })⟩
    rfl
  · refine ⟨(s.ch i).clipped, Eq.trans ?_ (State.ch_modCh_other s (fun c => { c with
      clipped := saturated c.clipped (clippedCells (s.ch ch).layout.geo false f0 +
        (f1.map (clippedCells (s.ch ch).layout.geo true)).getD 0) }) hi)⟩
    rfl

theorem releaseSheet_none {ch : ChannelId} {s : State} (h : (s.ch ch).pendSheet = none) : releaseSheet ch s = s := by
  unfold releaseSheet
  rw [h]

theorem releaseSheet_some {ch : ChannelId} {s : State} {f0 : Form} (h : (s.ch ch).pendSheet = some f0) :
    releaseSheet ch s = entered ch f0 none (s.modCh ch fun c => { c with pendSheet := none }) := by
  unfold releaseSheet
  rw [h, ← enterQueue_eq_entered]

theorem entered_queue_ne (ch : ChannelId) (f0 : Form) (f1 : Option Form) (s : State) :
    (entered ch f0 f1 s).queue ≠ [] := by
  change s.queue ++ [_] ≠ []
  simp

theorem releaseSheet_queue_ne {ch : ChannelId} {s : State}
    (h : s.queue ≠ [] ∨ (s.ch ch).pendSheet.isSome = true) : (releaseSheet ch s).queue ≠ [] := by
  cases hpend : (s.ch ch).pendSheet with
  | none =>
    rw [releaseSheet_none hpend]
    exact h.resolve_right (by simp [hpend])
  | some f0 =>
    rw [releaseSheet_some hpend]
    exact entered_queue_ne _ _ _ _

theorem breakForm_eq {ch : ChannelId} {s : State} {q : Paper} (h : (s.ch ch).paper = some q) :
    breakForm ch s = routeClose ch q.form (s.modCh ch fun c => { c with paper := some (broken q) }) := by
  unfold breakForm
  rw [h]
  rfl

/-- A broken form becomes a sheet of its own, or a pending one that is released at once, or completes one. -/
theorem breakVictim_queue_ne {v : ChannelId} {s : State} {q : Paper} (h : (s.ch v).paper = some q) :
    (breakVictim v s).queue ≠ [] := by
  unfold breakVictim
  rw [breakForm_eq h]
  have hch : (s.modCh v fun c => { c with paper := some (broken q) }).ch v =
      { s.ch v with paper := some (broken q) } := State.ch_modCh_same ..
  cases htwo : (s.ch v).layout.geo.twoUp with
  | false =>
    rw [routeClose_oneUp (by rw [hch]; exact htwo)]
    exact entered_queue_ne _ _ _ _
  | true =>
    cases hpend : (s.ch v).pendSheet with
    | none =>
      rw [routeClose_first (by rw [hch]; exact htwo) (by rw [hch]; exact hpend)]
      refine releaseSheet_queue_ne (.inr ?_)
      rw [State.ch_modCh_same, State.ch_modCh_same]
      rfl
    | some f0 =>
      rw [routeClose_second (by rw [hch]; exact htwo) (by rw [hch]; exact hpend)]
      exact entered_queue_ne _ _ _ _

/-! ### The forced break (R76) -/

theorem holdsCells_iff (c : Channel) : c.holdsCells = true ↔ 0 < c.openCells := by
  unfold Channel.holdsCells Channel.openCells
  cases c.paper <;> simp

theorem paper_of_openCells {c : Channel} (h : 0 < c.openCells) : ∃ p, c.paper = some p := by
  unfold Channel.openCells at h
  cases hp : c.paper with
  | none => simp [hp] at h
  | some p => exact ⟨p, rfl⟩

theorem victimOf_holds {waiting v : ChannelId} {s : State} (h : 0 < (s.ch v).openCells) :
    ∃ u, victimOf waiting s = some u ∧ 0 < (s.ch u).openCells := by
  unfold victimOf
  split
  next hown => exact ⟨waiting, rfl, (holdsCells_iff _).mp hown⟩
  next =>
    obtain ⟨u, hmost, hsome⟩ := mostOf_isSome
      (value := fun ch => if (s.ch ch).holdsCells then some (s.ch ch).openCells else none) (v := v)
      (by rw [if_pos ((holdsCells_iff _).mpr h)]; rfl)
    refine ⟨u, hmost, ?_⟩
    split at hsome
    next hholds => exact (holdsCells_iff _).mp hholds
    next => cases hsome

theorem victimOf_none {waiting : ChannelId} {s : State} (h : ∀ u, (s.ch u).openCells = 0) :
    victimOf waiting s = none := by
  have hempty : ∀ u, (s.ch u).holdsCells = false := fun u => by
    rw [← Bool.not_eq_true, holdsCells_iff, h]
    exact Nat.lt_irrefl 0
  unfold victimOf
  simp only [hempty, Bool.false_eq_true, if_false]
  rfl

/-- A forced break on an empty queue brings a sheet into it, where any channel holds a form or a pending sheet. -/
theorem forcedBreak_queue_ne {waiting : ChannelId} {s : State} (hempty : s.queue = [])
    (h : ∃ i, 0 < (s.ch i).openCells ∨ (s.ch i).pendSheet.isSome = true) :
    (forcedBreak waiting s).queue ≠ [] := by
  have hstays : ∀ t : State, t.queue ≠ [] → ¬ t.queue.length = s.queue.length := fun t ht hlen => by
    rw [hempty] at hlen
    exact ht (List.length_eq_zero_iff.mp hlen)
  unfold forcedBreak
  by_cases hopen : ∃ v, 0 < (s.ch v).openCells
  · obtain ⟨v, hv⟩ := hopen
    obtain ⟨u, hvictim, hcells⟩ := victimOf_holds (waiting := waiting) hv
    obtain ⟨q, hq⟩ := paper_of_openCells hcells
    have hreleased : (releaseSheet waiting (breakVictim u s)).queue ≠ [] :=
      releaseSheet_queue_ne (.inl (breakVictim_queue_ne hq))
    rw [hvictim]
    dsimp only
    rw [if_neg (hstays _ hreleased)]
    exact hreleased
  · have hzero : ∀ u, (s.ch u).openCells = 0 := fun u => by
      have := not_exists.mp hopen u
      omega
    obtain ⟨i, hi⟩ := h
    have hpend : (s.ch i).pendSheet.isSome = true := hi.resolve_left (by rw [hzero]; omega)
    rw [victimOf_none hzero]
    dsimp only
    cases hown : (s.ch waiting).pendSheet with
    | some f0 =>
      have hreleased : (releaseSheet waiting s).queue ≠ [] := releaseSheet_queue_ne (.inr (by rw [hown]; rfl))
      rw [if_neg (hstays _ hreleased)]
      exact hreleased
    | none =>
      rw [releaseSheet_none hown, if_pos rfl]
      obtain ⟨u, hmost, hsome⟩ := mostOf_isSome (value := fun ch => (s.ch ch).pendSheet.map Form.cellCount) (v := i)
        (by rw [Option.isSome_map]; exact hpend)
      rw [hmost]
      exact releaseSheet_queue_ne (.inr (by rw [Option.isSome_map] at hsome; exact hsome))

/-- A forced break whose victim is 1-up, with nothing pending at the waiting channel, breaks that form alone. -/
theorem forcedBreak_single {waiting v : ChannelId} {s : State} {q : Paper} (hvictim : victimOf waiting s = some v)
    (hq : (s.ch v).paper = some q) (hone : (s.ch v).layout.geo.twoUp = false)
    (hnone : (s.ch waiting).pendSheet = none) :
    forcedBreak waiting s =
      (entered v q.form none (s.modCh v fun c => { c with paper := some (broken q) })).modCh v fun c =>
        { c with forcedBreaks := saturated c.forcedBreaks 1 } := by
  have hbreak : breakVictim v s =
      (entered v q.form none (s.modCh v fun c => { c with paper := some (broken q) })).modCh v fun c =>
        { c with forcedBreaks := saturated c.forcedBreaks 1 } := by
    unfold breakVictim
    rw [hone, breakForm_eq hq, routeClose_oneUp (by rw [State.ch_modCh_same]; exact hone)]
    exact if_neg Bool.false_ne_true
  have hpend : ((breakVictim v s).ch waiting).pendSheet = none := by
    rw [hbreak]
    obtain ⟨clipped, hentered⟩ := entered_ch v q.form none (s.modCh v fun c => { c with paper := some (broken q) }) waiting
    by_cases hw : waiting = v
    · subst hw
      rw [State.ch_modCh_same, hentered, State.ch_modCh_same]
      exact hnone
    · rw [State.ch_modCh_other _ _ hw, hentered, State.ch_modCh_other _ _ hw]
      exact hnone
  unfold forcedBreak
  rw [hvictim]
  dsimp only
  rw [releaseSheet_none hpend, hbreak]
  refine if_neg fun hlen => ?_
  change (s.queue ++ [_]).length = s.queue.length at hlen
  simp at hlen

/-- The victim of R76: the waiting channel's own form, else the form with the most cells. -/
theorem victimOf_eq {waiting v : ChannelId} {s : State} {p q : Paper} (hp : (s.ch waiting).paper = some p)
    (hq : (s.ch v).paper = some q) (hcells : 0 < q.form.cellCount)
    (h : v = waiting ∨ (p.form.cellCount = 0 ∧ ∀ u : ChannelId, u ≠ v →
      (s.ch u).openCells ≤ q.form.cellCount ∧ (u.toNat < v.toNat → (s.ch u).openCells < q.form.cellCount))) :
    victimOf waiting s = some v := by
  have hvcells : (s.ch v).openCells = q.form.cellCount := openCells_of_paper hq
  unfold victimOf
  obtain rfl | ⟨hempty, hmost⟩ := h
  · exact if_pos ((holdsCells_iff _).mpr (by omega))
  · have hown : ¬ (s.ch waiting).holdsCells = true := by
      rw [holdsCells_iff, openCells_of_paper hp]
      omega
    rw [if_neg hown]
    refine mostOf_eq_some (n := q.form.cellCount) ?_ fun u hu m hm => ?_
    · rw [if_pos ((holdsCells_iff _).mpr (by omega)), hvcells]
    · split at hm
      · cases hm
        exact hmost u hu
      · cases hm

/-! ### The forced-break test and the retries (R69, R75) -/

theorem forceIfDry_none {s : State} (h : s.cellWait = []) : forceIfDry s = s := by
  unfold forceIfDry
  rw [h]

theorem forceIfDry_queued {s : State} (h : s.queue ≠ []) : forceIfDry s = s := by
  unfold forceIfDry
  split
  next hempty => exact absurd hempty h
  next => rfl

theorem forceIfDry_dry {s : State} {ch : ChannelId} {rest : List ChannelId} (hwait : s.cellWait = ch :: rest)
    (hempty : s.queue = []) :
    forceIfDry s = if s.freeCells < (forcedBreak ch s).freeCells then retryWaiting (forcedBreak ch s)
      else forcedBreak ch s := by
  unfold forceIfDry
  rw [hwait, hempty]

/-- A line that waits on an empty queue has a sheet in it afterwards. -/
theorem forceIfDry_queue_ne {s : State} {ch : ChannelId} {rest : List ChannelId} (hok : ChannelsOk s)
    (hwait : s.cellWait = ch :: rest) (hempty : s.queue = [])
    (h : ∃ i, 0 < (s.ch i).openCells ∨ (s.ch i).pendSheet.isSome = true) : (forceIfDry s).queue ≠ [] := by
  have hbreak := forcedBreak_queue_ne (waiting := ch) hempty h
  rw [forceIfDry_dry hwait hempty]
  split
  next =>
    obtain ⟨new, hgrows⟩ :=
      (retryWaiting_sound (forcedBreak_sound ((soundBut_none_iff s).mpr hok) ch hempty).chans).grows
    rw [hgrows.queue]
    exact fun hnil => hbreak (List.append_eq_nil_iff.mp hnil).1
  next => exact hbreak

/-- A line that waits on an empty queue breaks its one victim, where that clips nothing. -/
theorem forceIfDry_single {s : State} {ch v : ChannelId} {rest : List ChannelId} {q : Paper}
    (hwait : s.cellWait = ch :: rest) (hempty : s.queue = []) (hvictim : victimOf ch s = some v)
    (hq : (s.ch v).paper = some q) (hone : (s.ch v).layout.geo.twoUp = false) (hnone : (s.ch ch).pendSheet = none)
    (hclip : clippedCells (s.ch v).layout.geo false q.form = 0) :
    forceIfDry s =
      (entered v q.form none (s.modCh v fun c => { c with paper := some (broken q) })).modCh v fun c =>
        { c with forcedBreaks := saturated c.forcedBreaks 1 } := by
  have hsingle := forcedBreak_single hvictim hq hone hnone
  rw [forceIfDry_dry hwait hempty, hsingle, if_neg]
  change ¬ s.freeCells < s.freeCells + (clippedCells
    ((s.modCh v fun c => { c with paper := some (broken q) }).ch v).layout.geo false q.form + 0)
  rw [State.ch_modCh_same, hclip]
  exact Nat.lt_irrefl _

/-- Where the queue is empty and the pool not full, some channel holds a form's cells or a pending sheet's. -/
theorem exists_holding {s : State} (htotal : CellsTotal s) (hempty : s.queue = []) (hfree : s.freeCells < 24576) :
    ∃ i, 0 < (s.ch i).openCells ∨ (s.ch i).pendSheet.isSome = true := by
  by_contra hnone
  have hzero : ∀ i, (s.ch i).ownCells = 0 := fun i => by
    obtain ⟨hopen, hpend⟩ := not_or.mp (not_exists.mp hnone i)
    have hsheet : (s.ch i).pendSheet = none := by simpa using hpend
    unfold Channel.ownCells
    rw [hsheet]
    change (s.ch i).openCells + 0 = 0
    omega
  have htotal : s.freeCells + heldCells s = 24576 := htotal
  rw [heldCells_eq, hempty, hzero, hzero, hzero, hzero] at htotal
  exact absurd htotal (by simpa using hfree.ne)

/-- A strike list has one strike a column at most. -/
theorem StrikesOk.length_le {strikes : List Strike} (h : StrikesOk strikes) : strikes.length ≤ 160 := by
  obtain ⟨hsorted, hcols⟩ := h
  have hnodup : (strikes.map Strike.col).Nodup := by
    rw [List.nodup_iff_pairwise_ne, List.pairwise_map]
    exact hsorted.imp fun hab => hab.ne
  have hsub : strikes.map Strike.col ⊆ List.range 160 := fun col hcol => by
    obtain ⟨k, hk, rfl⟩ := List.mem_map.mp hcol
    exact List.mem_range.mpr (hcols k hk)
  have hle := (List.subperm_of_subset hnodup hsub).length_le
  rwa [List.length_map, List.length_range] at hle

theorem needed_le {strikes : List Strike} (h : StrikesOk strikes) (p : Paper) : needed p strikes ≤ 160 :=
  (List.countP_le_length ..).trans h.length_le

section
variable {ch : ChannelId} {op : Op} {strikes : List Strike} {p : Paper} {s : State}

theorem waitingStrikes_of (hbusy : (s.ch ch).state = .busy op) (hstage : op.stage = .placing strikes) :
    s.waitingStrikes ch = some strikes := by
  unfold State.waitingStrikes
  rw [hbusy]
  dsimp only
  rw [hstage]

/-- A head line whose cells are not there stops the retries (R69). -/
theorem retryWaiting_stuck {rest : List ChannelId} (hwait : s.cellWait = ch :: rest)
    (hbusy : (s.ch ch).state = .busy op) (hstage : op.stage = .placing strikes) (hpaper : (s.ch ch).paper = some p)
    (hfew : s.freeCells < needed p strikes) : retryWaiting s = s := by
  unfold retryWaiting
  rw [hwait]
  unfold retryLines
  rw [waitingStrikes_of hbusy hstage]
  dsimp only
  rw [cellsNeeded_eq hpaper, if_neg (by omega)]

/-- A head line whose cells are there leaves the list, is merged and moves (R69). -/
theorem retryWaiting_placed (hwait : s.cellWait = [ch]) (hbusy : (s.ch ch).state = .busy op)
    (hstage : op.stage = .placing strikes) (hpaper : (s.ch ch).paper = some p)
    (hcells : needed p strikes ≤ s.freeCells) :
    retryWaiting s = tryMove ch { s.modCh ch (Channel.withLine p strikes op) with
      cellWait := [], freeCells := s.freeCells - needed p strikes } := by
  have herase : s.cellWait.erase ch = [] := by
    rw [hwait]
    simp
  unfold retryWaiting
  rw [hwait]
  unfold retryLines
  rw [waitingStrikes_of hbusy hstage]
  dsimp only
  rw [cellsNeeded_eq hpaper, if_pos hcells, herase]
  unfold retryLines
  exact congrArg (tryMove ch) (mergeLine_eq (s := { s with cellWait := [] }) hbusy hpaper strikes)

end

end Sys2Proof.Machine
end

section
/-! PROOF. Lines that wait for cells, their retries and the forced break. -/

namespace Sys2Proof.Machine
open Sys2Proof.Claims

/-- A line waits on a channel in PLACING, with the state of the rest in shape. -/
theorem channelsOk_waiting {s t : State} (h : ChannelsOk s) {ch : ChannelId} {op : Op} {strikes : List Strike}
    (hother : ∀ i, i ≠ ch → t.ch i = s.ch i) (hbusy : (t.ch ch).state = .busy op) (hstage : op.stage = .placing strikes)
    (hprint : op.kind.isPrint = true) (hplaced : op.linePlaced = false) (hstrikes : StrikesOk strikes)
    (hpaper : (t.ch ch).paper = (s.ch ch).paper) (hsome : (s.ch ch).paper.isSome = true)
    (hsheet : (t.ch ch).pendSheet = (s.ch ch).pendSheet) (hlayout : (t.ch ch).layout = (s.ch ch).layout) :
    ChannelsOk t := by
  rw [← soundBut_none_iff] at h ⊢
  intro i
  by_cases hi : i = ch
  · subst hi
    obtain ⟨_, hpending, hcarriage, hform⟩ := (h i).1
    refine ⟨⟨fun hoff => ?_, ?_, ?_, ?_⟩, fun _ op' hop' => ?_⟩
    · rw [hbusy] at hoff
      cases hoff
    · rw [hsheet, hlayout, hpaper]
      exact hpending
    · rw [hpaper]
      exact hcarriage
    · rw [hsheet]
      exact hform
    · rw [hbusy] at hop'
      cases hop'
      unfold OpOk
      rw [hstage, hpaper]
      exact ⟨hprint, hsome, hplaced, hstrikes⟩
  · rw [hother i hi]
    exact h i

theorem landing_ok {r : LineRec} {table : List TransEntry} {entry : Nat → TransEntry} {n : Nat}
    (h : Reads r table entry n) (c : Channel) : StrikesOk (landing (entryStrikes entry n c)) := by
  rw [← strikes_of_reads h, ← keptStrikes_eq_landing]
  exact keptStrikes_ok ..

theorem openCells_of_body {c d : Channel} (h : d.paper = c.paper) : d.openCells = c.openCells := by
  unfold Channel.openCells
  rw [h]

/-- The state once a print's line has joined the wait for cells with its operation in PLACING (R37, R68). -/
def lineWaiting (w : BusWrite) (ans : WriteAnswer) (ch : ChannelId) (codes : Nat → Byte) (n : Nat) (op : Op)
    (s : State) : State :=
  { (begun w ans ch s).modCh ch (fun c =>
      { lineCounted s.setup.translation codes n c with state := .busy op }) with
    cellWait := s.cellWait ++ [ch] }

section
variable {w : BusWrite} {ans : WriteAnswer} {ch : ChannelId} {codes : Nat → Byte} {n : Nat} {op : Op} {s : State}

theorem lineWaiting_ch_same : (lineWaiting w ans ch codes n op s).ch ch =
    { lineCounted s.setup.translation codes n { withCommand w (s.ch ch) with runOutDue := false } with
      state := .busy op } := by
  unfold lineWaiting
  rw [State.ch_with_cellWait, State.ch_modCh_same, begun_ch]

theorem lineWaiting_ch_other {i : ChannelId} (hi : i ≠ ch) :
    (lineWaiting w ans ch codes n op s).ch i = s.ch i := by
  unfold lineWaiting begun
  rw [State.ch_with_cellWait, State.ch_modCh_other _ _ hi, State.ch_with_roomWait, State.ch_modCh_other _ _ hi,
    written_ch]

/-- The forms and layouts of all channels are as before. -/
theorem lineWaiting_forms (i : ChannelId) :
    ((lineWaiting w ans ch codes n op s).ch i).paper = (s.ch i).paper ∧
      ((lineWaiting w ans ch codes n op s).ch i).pendSheet = (s.ch i).pendSheet ∧
      ((lineWaiting w ans ch codes n op s).ch i).layout = (s.ch i).layout := by
  by_cases hi : i = ch
  · subst hi
    rw [lineWaiting_ch_same]
    exact ⟨rfl, rfl, rfl⟩
  · rw [lineWaiting_ch_other hi]
    exact ⟨rfl, rfl, rfl⟩

/-- A print GO whose line does not find its cells joins the wait, and the forced-break test follows. -/
theorem go_line_waits {len : Word} {p : Paper} (h : LineGo w ans ch len codes p s) {v : Word}
    (hv : newCommand w (s.ch ch) = v) (h11 : v.getLsbD 11 = false) (h12 : v.getLsbD 12 = false)
    (h7 : v.getLsbD 7 = false) (hcount : v.getLsbD 6 = true → 1 ≤ v.toNat % 16 ∧ v.toNat % 16 ≤ 12)
    {strikes : List Strike}
    (hstrikes : landing (rawStrikes s.setup.translation codes (min len.toNat 160) (s.ch ch)) = strikes)
    (hneed : 0 < needed p strikes) (hcells : s.cellWait ≠ [] ∨ s.freeCells < needed p strikes) :
    StrikesOk strikes ∧ presentWrite w ans s =
      forceIfDry (lineWaiting w ans ch codes (min len.toNat 160)
        (opOf v (opKindOf v) (moveCount v) (.placing strikes)) s) := by
  subst hstrikes
  obtain ⟨r, hgood, hwhole, hend⟩ := go_takes_line (ans := ans) h.toQuietGo hv h11 h12 h7
    (by rw [h.carriage]; rfl) hcount (hv ▸ h.held)
  have hallowed := hwhole.endLine_allowed (by
    rw [begun_inState_ch]
    exact h.printable.imp id fun hzero => ⟨hzero, hgood⟩)
  rw [strikes_begun] at hallowed
  refine ⟨landing_ok hwhole.reads (s.ch ch), (hend.trans hallowed).trans ?_⟩
  rw [State.modCh_modCh]
  exact placeLineNow_waits (p := p) (by rw [State.ch_modCh_same, begun_ch]; exact h.carriage) hneed hcells

end

/-- The one waiting line, of a print-then-space, finds its cells. -/
structure LineRetry (ch : ChannelId) (op : Op) (strikes : List Strike) (p : Paper) (s : State) : Prop where
  wait : s.cellWait = [ch]
  busy : (s.ch ch).state = .busy op
  stage : op.stage = .placing strikes
  kind : op.kind = .printSpace
  few : op.count ≤ 3
  carriage : (s.ch ch).paper = some p
  sound : PaperOk p
  cells : needed p strikes ≤ s.freeCells

/-- The state once a waiting line has left the wait list and been struck, its operation not yet gone on. -/
def lineRetried (ch : ChannelId) (strikes : List Strike) (p : Paper) (s : State) : State :=
  { s.modCh ch (fun c =>
      { c with
        paper := some (struck p strikes)
        droppedStrikes := saturated c.droppedStrikes (overfull p strikes) }) with
    cellWait := [], freeCells := s.freeCells - needed p strikes }

section
variable {ch : ChannelId} {op : Op} {strikes : List Strike} {p : Paper} {s : State}

theorem lineRetried_ch (st : ChState) :
    ((lineRetried ch strikes p s).modCh ch (Channel.inState st)).ch ch =
      { s.ch ch with
        state := st, paper := some (struck p strikes)
        droppedStrikes := saturated (s.ch ch).droppedStrikes (overfull p strikes) } := by
  cases ch <;> rfl

theorem LineRetry.retryWaiting_eq (h : LineRetry ch op strikes p s) :
    retryWaiting s =
      tryMove ch ((lineRetried ch strikes p s).modCh ch (Channel.inState (.busy op.mergedLine))) := by
  rw [retryWaiting_placed h.wait h.busy h.stage h.carriage h.cells]
  refine congrArg (tryMove ch) ?_
  cases ch <;> rfl

theorem LineRetry.steps (h : LineRetry ch op strikes p s) :
    moveSteps op.mergedLine (struck p strikes) = some op.count :=
  (congrArg (fun k => moveSteps { op.mergedLine with kind := k } (struck p strikes)) h.kind).trans rfl

theorem LineRetry.count_le (h : LineRetry ch op strikes p s) : op.count ≤ p.tape.masks.length := by
  have hlong := h.sound.twelve_le
  have hfew := h.few
  omega

theorem LineRetry.moving (h : LineRetry ch op strikes p s) (hstop : (s.ch ch).pendStop = false)
    (heject : (s.ch ch).pendEject = false) :
    Moving ch op.mergedLine (struck p strikes) op.count
      ((lineRetried ch strikes p s).modCh ch (Channel.inState (.busy op.mergedLine))) := by
  constructor <;> try rw [lineRetried_ch]
  · rfl
  · exact fun hk => nomatch h.kind.symm.trans hk
  · exact fun hk => nomatch h.kind.symm.trans hk
  · exact h.sound.pos_lt
  · exact h.steps
  · exact h.count_le
  · exact hstop
  · exact heject

/-- The line whose cells are there is placed, moves and completes, and the tally is written back. -/
theorem LineRetry.afterFreeing_printed (h : LineRetry ch op strikes p s) (hstop : (s.ch ch).pendStop = false)
    (heject : (s.ch ch).pendEject = false) (hroom : RoomFor ch p op.count (lineRetried ch strikes p s)) :
    afterFreeing s = { (carried ch (struck p strikes) op.count (lineRetried ch strikes p s)).modCh ch (fun c =>
        { finished op.ie c with tally := c.tally + 1 }) with
      ownQueue := withTally ch (s.wordAddr (.control ch) 3) ((s.ch ch).tally + 1) s.ownQueue } := by
  have hmoving := h.moving hstop heject
  have hroom' : RoomFor ch (struck p strikes) op.count
      ((lineRetried ch strikes p s).modCh ch (Channel.inState (.busy op.mergedLine))) :=
    roomFor_congr (p := p) hroom (by cases ch <;> rfl) (by cases ch <;> rfl) rfl rfl
  have htallied : (op.mergedLine.kind.isPrint && op.mergedLine.linePlaced) = true := by
    change (op.kind.isPrint && true) = true
    rw [h.kind]
    rfl
  unfold afterFreeing
  rw [h.retryWaiting_eq, hmoving.tryMove_printed (roomMet_of_roomFor hmoving.onTape hmoving.few hroom') htallied,
    lineRetried_ch, forceIfDry_none (carried_cellWait ..), carried_inState, State.modCh_modCh]
  rfl

/-- The line whose cells are there is placed, and its close waits for room. -/
theorem LineRetry.afterFreeing_waits (h : LineRetry ch op strikes p s)
    (hover : p.tape.masks.length ≤ p.pos + op.count)
    (hneeds : (s.ch ch).layout.geo.twoUp = false ∨ (s.ch ch).pendSheet.isSome = true) (hfull : 8 ≤ s.queue.length)
    (hnew : Claim.move ch ∉ s.roomWait) :
    afterFreeing s = { (lineRetried ch strikes p s).modCh ch (Channel.inState (.busy op.mergedLine)) with
      roomWait := s.roomWait ++ [.move ch] } := by
  have hjoins := carriageMove_waits (op := op.mergedLine) (p := struck p strikes) (m := op.count)
    (s := (lineRetried ch strikes p s).modCh ch (Channel.inState (.busy op.mergedLine))) (by rw [lineRetried_ch])
    h.sound.pos_lt h.steps h.count_le hover (by rw [lineRetried_ch]; exact hneeds) hfull hnew
  unfold afterFreeing
  rw [h.retryWaiting_eq, tryMove_carriage (op := op.mergedLine) (by rw [lineRetried_ch]) rfl
    (fun hk => nomatch h.kind.symm.trans hk) (fun hk => nomatch h.kind.symm.trans hk), hjoins]
  exact forceIfDry_none rfl

end

end Sys2Proof.Machine

namespace Sys2Proof
open Sys2Proof.Machine Sys2Proof.Claims

/-- Settles O27: the head's cells are there and the list is retried, or they are not and the forced-break test is
what is left. -/
theorem cellWaitRetry : Obligations.CellWaitRetry := by
  intro ch op strikes p s hbusy hstage hkind hcount hpaper
  refine ⟨fun hp hwait hcells hstop heject hroom => ?_, fun rest hwait hfew => ?_⟩
  · have hretry : LineRetry ch op strikes p s :=
      ⟨hwait, hbusy, hstage, hkind, hcount, hpaper, hp, hcells⟩
    exact congrArg Host.Outcome.next (hretry.afterFreeing_printed hstop heject (roomFor_congr hroom
      (by cases ch <;> rfl) (by cases ch <;> rfl) rfl rfl))
  · have hstuck : exec .cellWaitRetry s = .next (forceIfDry s) :=
      congrArg (fun t => Host.Outcome.next (forceIfDry t)) (retryWaiting_stuck hwait hbusy hstage hpaper hfew)
    rw [hstuck]
    refine ⟨fun hqueue => congrArg _ (forceIfDry_queued hqueue), fun hempty htotal hok => ⟨_, rfl, ?_⟩⟩
    have hstrikes : StrikesOk strikes := by
      have hop := (((soundBut_none_iff s).mpr hok) ch).2 nofun op (by rw [hbusy]; rfl)
      exact (hop.placing hstage).2.2.2
    refine forceIfDry_queue_ne hok hwait hempty (exists_holding htotal hempty ?_)
    have := needed_le hstrikes p
    omega

/-- Settles O28: the head line's retry comes to the forced break, whose victim is the one of R76. -/
theorem forcedBreak : Obligations.ForcedBreak := by
  intro ch rest op strikes p s hwait hempty _ hbusy hstage hpaper hfew hnone v q hq hcells hone _ hclip hvictim
  have hstuck : exec .cellWaitRetry s = .next (forceIfDry s) :=
    congrArg (fun t => Host.Outcome.next (forceIfDry t)) (retryWaiting_stuck hwait hbusy hstage hpaper hfew)
  rw [hstuck, forceIfDry_single hwait hempty (victimOf_eq hpaper hq hcells hvictim) hq hone hnone hclip]

/-- Settles O25: the line has its strikes and finds no cells; it joins, and the forced-break test follows. -/
theorem lineWaitsForCells : Obligations.LineWaitsForCells := by
  intro w ans ch len codes p s h h11 h12 h7 strikes waits joins hneed hcells
  have hjoins : ∀ i kind count, exec i s = .next (presentWrite w ans s) →
      opKindOf (newCommand w (s.ch ch)) = kind → moveCount (newCommand w (s.ch ch)) = count →
      ((newCommand w (s.ch ch)).getLsbD 6 = true →
        1 ≤ (newCommand w (s.ch ch)).toNat % 16 ∧ (newCommand w (s.ch ch)).toNat % 16 ≤ 12) →
      joins i kind count := by
    rintro i kind count hexec rfl rfl hcount
    obtain ⟨hstrikes, hwaits⟩ := go_line_waits (strikes := strikes) h rfl h11 h12 h7 hcount rfl hneed hcells
    rw [hwaits] at hexec
    refine ⟨fun hqueue => hexec.trans (congrArg _ (forceIfDry_queued hqueue)), fun hempty hnone => ?_⟩
    have hwait : s.cellWait ++ [ch] = [ch] := by rw [hnone]; rfl
    have hforms := lineWaiting_forms (w := w) (ans := ans) (ch := ch) (codes := codes)
      (n := min len.toNat 160) (s := s) (op := opOf (newCommand w (s.ch ch)) (opKindOf (newCommand w (s.ch ch)))
        (moveCount (newCommand w (s.ch ch))) (.placing strikes))
    refine ⟨fun htotal hok => ⟨_, hexec, ?_⟩, fun hsheet u q hvictim => ?_⟩
    · have hfew : s.freeCells < needed p strikes := hcells.resolve_left fun hne => hne hnone
      have hle := needed_le hstrikes p
      obtain ⟨i, hi⟩ := exists_holding htotal hempty (by omega)
      obtain ⟨hpaper, hpend, hlayout⟩ := hforms ch
      refine forceIfDry_queue_ne (channelsOk_waiting hok (fun i hi => lineWaiting_ch_other hi)
        (by rw [lineWaiting_ch_same]) rfl (isPrint_opKindOf h7) rfl hstrikes hpaper (by rw [h.carriage]; rfl) hpend
        hlayout) hwait hempty ⟨i, ?_⟩
      obtain ⟨hpaper', hpend', _⟩ := hforms i
      rw [openCells_of_body hpaper', hpend']
      exact hi
    · obtain ⟨hq, hqcells, hone, _, hclip, hmost⟩ := hvictim
      have hlayout := (hforms u).2.2
      refine hexec.trans (congrArg Host.Outcome.next (forceIfDry_single hwait hempty
        (victimOf_eq ((hforms ch).1.trans h.carriage) ((hforms u).1.trans hq) hqcells ?_)
        ((hforms u).1.trans hq) (by rw [hlayout]; exact hone) ((hforms ch).2.1.trans hsheet)
        (by rw [hlayout]; exact hclip)))
      refine hmost.imp id fun ⟨hzero, hall⟩ => ⟨hzero, fun i hi => ?_⟩
      rw [openCells_of_body (hforms i).1]
      exact hall i hi
  refine ⟨fun h6 => hjoins _ _ _ rfl ?_ (moveCount_space h6) (fun hskip => absurd (h6.symm.trans hskip) nofun),
    fun h6 hlow hhigh => hjoins _ _ _ rfl ?_ (moveCount_skip h6) fun _ => ⟨hlow, hhigh⟩⟩
  · rw [opKindOf_eq, h7, h6]
    rfl
  · rw [opKindOf_eq, h7, h6]
    rfl

end Sys2Proof
end

section
/-! SUPPORT. The run-out action, the channel's tick in its three steps, and the claims of a free place
(R6, R77, R78, R100, R153). -/

namespace Sys2Proof.Machine
open Sys2Proof.Claims

/-! ### The run-out action (R78) -/

section
variable {ch : ChannelId} {p : Paper} {f0 : Form} {s : State}

theorem holdsCells_of_paper (hpaper : (s.ch ch).paper = some p) (hcells : 0 < p.form.cellCount) :
    (s.ch ch).holdsCells = true := by
  rw [holdsCells_iff, openCells_of_paper hpaper]
  exact hcells

theorem pendSheet_entered (i : ChannelId) (f0 : Form) (f1 : Option Form) :
    ((entered ch f0 f1 s).ch i).pendSheet = (s.ch i).pendSheet := by
  obtain ⟨_, h⟩ := entered_ch ch f0 f1 s i
  rw [h]

/-- An open form with cells enters alone where no sheet is pending. -/
theorem enterRunOut_form (hpaper : (s.ch ch).paper = some p) (hcells : 0 < p.form.cellCount)
    (hnone : (s.ch ch).pendSheet = none) :
    enterRunOut ch s = entered ch p.form none (s.modCh ch fun c => { c with paper := some (broken p) }) := by
  have hch : ((s.modCh ch fun c => { c with paper := some (broken p) }).ch ch) =
      { s.ch ch with paper := some (broken p) } := State.ch_modCh_same ..
  unfold enterRunOut
  rw [if_pos (holdsCells_of_paper hpaper hcells), breakForm_eq hpaper]
  cases htwo : (s.ch ch).layout.geo.twoUp with
  | false =>
    rw [routeClose_oneUp (by rw [hch]; exact htwo), releaseSheet_none]
    rw [pendSheet_entered, hch]
    exact hnone
  | true =>
    rw [routeClose_first (by rw [hch]; exact htwo) (by rw [hch]; exact hnone),
      releaseSheet_some (f0 := p.form) (by rw [State.ch_modCh_same]), State.modCh_modCh, State.modCh_modCh]
    exact congrArg _ (modCh_congr (by rw [← hnone]))

/-- In 2-up an open form with cells completes the pending sheet. -/
theorem enterRunOut_both (hpaper : (s.ch ch).paper = some p) (hcells : 0 < p.form.cellCount)
    (hpend : (s.ch ch).pendSheet = some f0) (htwo : (s.ch ch).layout.geo.twoUp = true) :
    enterRunOut ch s =
      entered ch f0 (some p.form) (s.modCh ch fun c => { c with paper := some (broken p), pendSheet := none }) := by
  have hch : ((s.modCh ch fun c => { c with paper := some (broken p) }).ch ch) =
      { s.ch ch with paper := some (broken p) } := State.ch_modCh_same ..
  unfold enterRunOut
  rw [if_pos (holdsCells_of_paper hpaper hcells), breakForm_eq hpaper,
    routeClose_second (by rw [hch]; exact htwo) (by rw [hch]; exact hpend), State.modCh_modCh, releaseSheet_none]
  · rw [pendSheet_entered, State.ch_modCh_same]

/-- With no cells in the open form the pending sheet goes alone. -/
theorem enterRunOut_sheet (hempty : (s.ch ch).openCells = 0) (hpend : (s.ch ch).pendSheet = some f0) :
    enterRunOut ch s = entered ch f0 none (s.modCh ch fun c => { c with pendSheet := none }) := by
  unfold enterRunOut
  rw [if_neg (by rw [holdsCells_iff]; omega), releaseSheet_some hpend]

theorem runOutEnters_iff (c : Channel) :
    c.runOutEnters = true ↔ 0 < c.openCells ∨ c.pendSheet.isSome = true := by
  unfold Channel.runOutEnters
  rw [Bool.or_eq_true, holdsCells_iff]

/-! ### The steps of a tick (R153) -/

theorem channelTick_offline (h : (s.ch ch).state = .offline) : channelTick ch s = s := by
  unfold channelTick
  rw [h]

theorem channelTick_online (h : (s.ch ch).state ≠ .offline) :
    channelTick ch s = tickSample ch (tickRunOut ch (tickStall ch s)) := by
  unfold channelTick
  split
  next hoff => exact absurd hoff h
  next => rfl

theorem modCh_unchanged {f : Channel → Channel} (h : f (s.ch ch) = s.ch ch) : s.modCh ch f = s := by
  unfold State.modCh
  rw [h]
  exact State.setCh_ch_self s ch

theorem tickStall_busy {op : Op} (h : (s.ch ch).state = .busy op) :
    tickStall ch s = s.modCh ch fun c => { c with stall := saturated c.stall 1 } := by
  unfold tickStall
  refine modCh_congr ?_
  rw [h]
  rfl

theorem tickStall_free (h : (s.ch ch).state.isBusy = false) : tickStall ch s = s :=
  modCh_unchanged (if_neg (Bool.eq_false_iff.mp h))

theorem tickRunOut_still (h : ¬ (s.ch ch).runOutCounts = true) : tickRunOut ch s = s := if_neg h

theorem tickRunOut_more (h : (s.ch ch).runOutCounts = true) (hmore : (s.ch ch).runOut ≠ 1) :
    tickRunOut ch s = s.modCh ch fun c => { c with runOut := c.runOut - 1 } :=
  (if_pos h).trans (if_neg hmore)

/-- The tick that brings the counter to 0 takes the action, or leaves it due (R77, R78). -/
theorem tickRunOut_last (h : (s.ch ch).runOutCounts = true) (hlast : (s.ch ch).runOut = 1) :
    tickRunOut ch s = settleFrom s.freeCells
      (if s.hasPlace then enterRunOut ch (s.modCh ch fun c => { c with runOut := 0 })
        else joinRoom (.runOut ch) (s.modCh ch fun c => { c with runOut := 0, runOutDue := true })) := by
  obtain ⟨_, hdue, henters⟩ : 0 < (s.ch ch).runOut ∧ (s.ch ch).runOutDue = false ∧ (s.ch ch).runOutEnters = true := by
    rw [runOutCounts_iff] at h
    obtain ⟨h1, _, h3, h4⟩ := h
    exact ⟨h1, h3, h4⟩
  have hzero : (s.modCh ch fun c => { c with runOut := c.runOut - 1 }).modCh ch
      (fun c => { c with runOutDue := true }) = s.modCh ch fun c => { c with runOut := 0, runOutDue := true } := by
    rw [State.modCh_modCh]
    exact modCh_congr (by rw [hlast])
  refine (if_pos h).trans ((if_pos hlast).trans (congrArg (settleFrom s.freeCells) ?_))
  rw [hzero]
  unfold tryRunOut
  rw [State.ch_modCh_same, takeRunOut_eq, State.modCh_modCh]
  have hagain : s.modCh ch (fun c => { c with runOut := 0, runOutDue := false }) =
      s.modCh ch fun c => { c with runOut := 0 } := modCh_congr (by rw [← hdue])
  have henters' : Channel.runOutEnters { s.ch ch with runOut := 0, runOutDue := true } = true := henters
  rw [henters']
  exact congrArg (fun t => if s.hasPlace then enterRunOut ch t else _) hagain

theorem tickSample_plain (h : (s.ch ch).goMode ≠ .sampled) : tickSample ch s = s := if_neg h

theorem tickSample_quiet (h : (s.ch ch).goMode = .sampled) (hrise : ¬ GoRises (s.ch ch)) :
    tickSample ch s = s.modCh ch fun c => { c with prevSample := c.merged } := by
  refine (if_pos h).trans (if_neg fun hgo => hrise ?_)
  rw [Bool.and_eq_true, Bool.not_eq_true'] at hgo
  exact hgo

theorem tickSample_rises (h : (s.ch ch).goMode = .sampled) (hrise : GoRises (s.ch ch)) :
    tickSample ch s = takeGo ch (s.ch ch).merged (s.modCh ch fun c => { c with prevSample := c.merged }) := by
  obtain ⟨hnow, hbefore⟩ := hrise
  refine (if_pos h).trans (if_pos ?_)
  change ((s.ch ch).merged.getLsbD 15 && !(s.ch ch).prevSample.getLsbD 15) = true
  rw [hnow, hbefore]
  rfl

/-- In BUSY every GO is refused (R8 to R10). -/
theorem takeGo_busy {op : Op} (h : (s.ch ch).state = .busy op) (v : Word) : takeGo ch v s = refuseGo ch s := by
  cases h11 : v.getLsbD 11 with
  | true => rw [takeGo_clear h11, goClear_busy h]
  | false =>
    cases h12 : v.getLsbD 12 with
    | true => rw [takeGo_loadTape h11 h12, goLoad_refused] <;> rw [h] <;> nofun
    | false =>
      rw [takeGo_move h11 h12, goMove_refused]
      · rintro ⟨hidle, _⟩
        rw [h] at hidle
        cases hidle
      · rw [h]
        nofun

/-- A move's GO that a sample makes in IDLE, with room (R6, R49, R50). -/
theorem takeGo_moves {m : Nat} {c : Channel} (hmove : MoveSampled p m c) (hidle : (s.ch ch).state = .idle)
    (hpaper : (s.ch ch).paper = some p) (hpos : p.pos < p.tape.masks.length) (hlong : 12 ≤ p.tape.masks.length)
    (hroom : RoomFor ch p m s) (hstop : (s.ch ch).pendStop = false) (heject : (s.ch ch).pendEject = false) :
    takeGo ch c.merged s = (carried ch p m { s.modCh ch (fun c => { c with runOutDue := false }) with
      roomWait := s.roomWait.filter fun x => decide (x ≠ .runOut ch) }).modCh ch
        (finished (c.merged.getLsbD 13)) := by
  obtain ⟨h11, h12, h7, hsteps⟩ := hmove
  have hfew : m ≤ p.tape.masks.length := by
    obtain ⟨_, hm⟩ | ⟨_, _, _, hlands⟩ := hsteps
    · omega
    · exact hlands.2.1
  have hprint : (opKindOf c.merged).isPrint = false := by
    rw [opKindOf_eq, h7]
    cases c.merged.getLsbD 6 <;> rfl
  have htakes : MoveTakes (opKindOf c.merged) (moveCount c.merged) (s.ch ch) := by
    refine ⟨hidle, by rw [hpaper]; rfl, (countOk_iff _).mpr fun h6 => ?_⟩
    obtain ⟨h6', _⟩ | ⟨_, hlow, hhigh, _⟩ := hsteps
    · exact absurd (h6'.symm.trans h6) nofun
    · exact ⟨hlow, hhigh⟩
  have hch : ∀ l st, (State.modCh { s.modCh ch (fun c => { c with runOutDue := false }) with roomWait := l } ch
      (Channel.inState st)).ch ch = Channel.inState st { s.ch ch with runOutDue := false } := fun l st => by
    rw [State.ch_modCh_same, State.ch_with_roomWait, State.ch_modCh_same]
  have hmoving : Moving ch (goOp c.merged) p m
      (State.modCh { s.modCh ch (fun c => { c with runOutDue := false }) with
        roomWait := s.roomWait.filter fun x => decide (x ≠ .runOut ch) } ch
          (Channel.inState (.busy (goOp c.merged)))) := by
    constructor <;> try rw [hch]
    · rfl
    · rfl
    · change opKindOf c.merged ≠ _
      rw [opKindOf_eq]
      split <;> split <;> nofun
    · change opKindOf c.merged ≠ _
      exact opKindOf_ne_loadTape _
    · exact hpaper
    · exact hpos
    · change moveSteps { goOp c.merged with kind := opKindOf c.merged, count := moveCount c.merged } p = some m
      obtain ⟨h6, hm⟩ | ⟨h6, _, _, hlands⟩ := hsteps
      · rw [opKindOf_eq, h7, h6, moveCount_space h6, hm]
        rfl
      · rw [opKindOf_eq, h7, h6, moveCount_skip h6]
        exact skipSteps_of_lands hlands
    · exact hfew
    · exact hstop
    · exact heject
  have hroom' := roomFor_congr (t := State.modCh { s.modCh ch (fun c => { c with runOutDue := false }) with
    roomWait := s.roomWait.filter fun x => decide (x ≠ .runOut ch) } ch
      (Channel.inState (.busy (goOp c.merged)))) hroom (by rw [hch]; rfl) (by rw [hch]; rfl) rfl rfl
  have hdone := hmoving.moveOn_done hroom' (by
    change ((opKindOf c.merged).isPrint && false) = false
    rw [Bool.and_false])
  rw [takeGo_move h11 h12, goMove_taken htakes, if_neg (Bool.eq_false_iff.mp hprint), startOp_eq]
  refine hdone.trans ?_
  rw [carried_inState, finished_inState]
  rfl

end

end Sys2Proof.Machine
end

section
/-! PROOF. The run-out action at its tick, the claims of a free place, and the channel's tick. -/

namespace Sys2Proof.Machine
open Sys2Proof.Claims

section
variable {ch : ChannelId} {p : Paper} {s : State}

theorem isQuiet_iff (st : ChState) : st.isQuiet = true ↔ st = .idle ∨ st = .stopped := by
  cases st <;> simp [ChState.isQuiet]

theorem quiet_online {st : ChState} (h : st = .idle ∨ st = .stopped) : st ≠ .offline ∧ st.isBusy = false := by
  obtain rfl | rfl := h
  · exact ⟨nofun, rfl⟩
  · exact ⟨nofun, rfl⟩

/-- A tick of an IDLE or STOPPED channel is its run-out step and its sample. -/
theorem channelTick_quiet (h : (s.ch ch).state = .idle ∨ (s.ch ch).state = .stopped) :
    channelTick ch s = tickSample ch (tickRunOut ch s) := by
  obtain ⟨honline, hfree⟩ := quiet_online h
  rw [channelTick_online honline, tickStall_free hfree]

theorem runOutCounts_quiet (h : (s.ch ch).state = .idle ∨ (s.ch ch).state = .stopped) :
    (s.ch ch).runOutCounts = true ↔ counting (s.ch ch) := by
  rw [runOutCounts_iff, isQuiet_iff, runOutEnters_iff]
  exact ⟨fun ⟨h1, _, h3, h4⟩ => ⟨h1, h3, h4⟩, fun ⟨h1, h3, h4⟩ => ⟨h1, h, h3, h4⟩⟩

theorem hasPlace_of_room (h : s.queue.length < 8) : s.hasPlace = true := (hasPlace_iff s).mpr h

theorem hasPlace_of_full (h : 8 ≤ s.queue.length) : ¬ s.hasPlace = true := by
  rw [hasPlace_iff]
  omega

theorem entered_cellWait (f0 : Form) (f1 : Option Form) : (entered ch f0 f1 s).cellWait = s.cellWait := rfl

/-- The last tick with room takes the action, whose sheet enters. -/
theorem tickRunOut_taken (h : (s.ch ch).runOutCounts = true) (hlast : (s.ch ch).runOut = 1)
    (hroom : s.queue.length < 8) :
    tickRunOut ch s = settleFrom s.freeCells (enterRunOut ch (s.modCh ch fun c => { c with runOut := 0 })) := by
  rw [tickRunOut_last h hlast, if_pos (hasPlace_of_room hroom)]

/-- The last tick with the queue full leaves the action due (R78). -/
theorem tickRunOut_held (h : (s.ch ch).runOutCounts = true) (hlast : (s.ch ch).runOut = 1)
    (hfull : 8 ≤ s.queue.length) :
    tickRunOut ch s = joinRoom (.runOut ch) (s.modCh ch fun c => { c with runOut := 0, runOutDue := true }) := by
  rw [tickRunOut_last h hlast, if_neg (hasPlace_of_full hfull)]
  refine settleFrom_same ?_
  unfold joinRoom
  split <;> exact le_refl s.freeCells

theorem filter_claim {x : Claim} {rest : List Claim} (h : x ∉ rest) :
    ((x :: rest).filter fun y => decide (y ≠ x)) = rest := by
  rw [List.filter_cons_of_neg (by simp), List.filter_eq_self]
  intro y hy
  refine decide_eq_true ?_
  rintro rfl
  exact h hy

theorem firstClaim_head {x : Claim} {rest : List Claim} (hlist : s.roomWait = x :: rest) (hroom : s.queue.length < 8) :
    firstClaim s = some x := by
  have hplace := hasPlace_of_room hroom
  have htakable : claimTakable x s = true := by
    cases x <;> simp [claimTakable, hplace]
  unfold firstClaim
  rw [if_pos hplace, hlist]
  exact List.find?_cons_of_pos (p := fun y => claimTakable y s) htakable

/-- A waiting space that gets its place closes the form, moves on and completes (R54, R100). -/
theorem takeClaim_space {op : Op} {rest : List Claim} (hlist : s.roomWait = .move ch :: rest)
    (hnew : Claim.move ch ∉ rest) (hroom : s.queue.length < 8) (hbusy : (s.ch ch).state = .busy op)
    (hstage : op.stage = .moving none) (hkind : op.kind = .spaceOnly) (hcount : op.count ≤ 3)
    (hpaper : (s.ch ch).paper = some p) (hp : PaperOk p) (hover : p.tape.masks.length ≤ p.pos + op.count)
    (hstop : (s.ch ch).pendStop = false) (heject : (s.ch ch).pendEject = false) :
    takeClaim (.move ch) s =
      (routeClose ch p.form ({ s with roomWait := rest }.modCh ch (movedOnto p op.count))).modCh ch
        (finished op.ie) := by
  have hfew : op.count ≤ p.tape.masks.length := by
    have := hp.twelve_le
    omega
  have hmoving : Moving ch op p op.count { s with roomWait := rest } :=
    { busy := hbusy, stage := hstage, notEject := by rw [hkind]; nofun, notLoad := by rw [hkind]; nofun
      carriage := hpaper, onTape := hp.pos_lt, steps := by unfold moveSteps; rw [hkind], few := hfew
      noStop := hstop, noEject := heject }
  have hmove := hmoving.tryMove_done (roomMet_of_fits (.inr hroom) _) (by rw [hkind]; rfl)
  have hcarried : carried ch p op.count { s with roomWait := rest } =
      routeClose ch p.form ({ s with roomWait := rest }.modCh ch (movedOnto p op.count)) := if_neg (by omega)
  unfold takeClaim
  rw [hlist, filter_claim hnew]
  exact hmove.trans (by rw [hcarried])

/-- A run-out action held due that gets its place enters its form's sheet (R78, R100). -/
theorem takeClaim_form {rest : List Claim} (hlist : s.roomWait = .runOut ch :: rest)
    (hnew : Claim.runOut ch ∉ rest) (hpaper : (s.ch ch).paper = some p) (hcells : 0 < p.form.cellCount)
    (hnone : (s.ch ch).pendSheet = none) :
    takeClaim (.runOut ch) s =
      entered ch p.form none ({ s with roomWait := rest }.modCh ch fun c =>
        { c with runOutDue := false, paper := some (broken p) }) := by
  have hch : ((State.modCh { s with roomWait := rest } ch fun c => { c with runOutDue := false }).ch ch) =
      { s.ch ch with runOutDue := false } := State.ch_modCh_same ..
  unfold takeClaim
  rw [hlist, filter_claim hnew]
  dsimp only
  rw [takeRunOut_eq, enterRunOut_form (p := p) (by rw [hch]; exact hpaper) hcells (by rw [hch]; exact hnone),
    State.modCh_modCh]

/-- A SAMPLED channel's run-out step and sample, no action becoming due. -/
theorem tickRunOut_ticked (h : (s.ch ch).state = .idle ∨ (s.ch ch).state = .stopped)
    (hlast : ¬ (counting (s.ch ch) ∧ (s.ch ch).runOut = 1)) :
    tickRunOut ch s =
      s.modCh ch fun c => { c with runOut := if counting c then c.runOut - 1 else c.runOut } := by
  by_cases hcounts : counting (s.ch ch)
  · rw [tickRunOut_more ((runOutCounts_quiet h).mpr hcounts) fun hone => hlast ⟨hcounts, hone⟩]
    exact modCh_congr (by rw [if_pos hcounts])
  · rw [tickRunOut_still fun hc => hcounts ((runOutCounts_quiet h).mp hc)]
    exact (modCh_unchanged (by rw [if_neg hcounts])).symm

theorem channelTick_unrisen (h : (s.ch ch).state = .idle ∨ (s.ch ch).state = .stopped)
    (hmode : (s.ch ch).goMode = .sampled) (hlast : ¬ (counting (s.ch ch) ∧ (s.ch ch).runOut = 1))
    (hrise : ¬ GoRises (s.ch ch)) : channelTick ch s = s.modCh ch ticked := by
  rw [channelTick_quiet h, tickRunOut_ticked h hlast, tickSample_quiet (by rw [State.ch_modCh_same]; exact hmode)
    (by rw [State.ch_modCh_same]; exact hrise), State.modCh_modCh]
  rfl

theorem channelTick_risen (h : (s.ch ch).state = .idle ∨ (s.ch ch).state = .stopped)
    (hmode : (s.ch ch).goMode = .sampled) (hlast : ¬ (counting (s.ch ch) ∧ (s.ch ch).runOut = 1))
    (hrise : GoRises (s.ch ch)) : channelTick ch s = takeGo ch (s.ch ch).merged (s.modCh ch ticked) := by
  rw [channelTick_quiet h, tickRunOut_ticked h hlast, tickSample_rises (by rw [State.ch_modCh_same]; exact hmode)
    (by rw [State.ch_modCh_same]; exact hrise), State.modCh_modCh, State.ch_modCh_same]
  rfl

end

end Sys2Proof.Machine

namespace Sys2Proof
open Sys2Proof.Machine Sys2Proof.Claims

/-- Settles O29: the tick's run-out step takes the action with a free place, and holds it due without one. -/
theorem runOut : Obligations.RunOut := by
  intro ch s ⟨hquiet, hlast, hdue, hmode⟩
  have hexec : (0 < (s.ch ch).openCells ∨ (s.ch ch).pendSheet.isSome = true) →
      (s.ch ch).runOutCounts = true ∧ exec (.runOut ch) s = .next (tickSample ch (tickRunOut ch s)) := by
    intro henters
    have hcounts : (s.ch ch).runOutCounts = true :=
      (runOutCounts_quiet hquiet).mpr ⟨by omega, hdue, henters⟩
    refine ⟨hcounts, ?_⟩
    rw [← channelTick_quiet hquiet]
    exact if_pos (by rw [hcounts, hlast]; rfl)
  have hch : (s.modCh ch fun c => { c with runOut := 0 }).ch ch = { s.ch ch with runOut := 0 } :=
    State.ch_modCh_same ..
  have hplain : ∀ (f0 : Form) (f1 : Option Form) (f : Channel → Channel),
      (f (s.ch ch)).goMode = (s.ch ch).goMode → s.cellWait = [] →
      tickSample ch (settleFrom s.freeCells (entered ch f0 f1 (s.modCh ch f))) = entered ch f0 f1 (s.modCh ch f) := by
    intro f0 f1 f hf hnone
    have hsettled : settleFrom s.freeCells (entered ch f0 f1 (s.modCh ch f)) = entered ch f0 f1 (s.modCh ch f) :=
      settleFrom_none hnone
    rw [hsettled, tickSample_plain]
    obtain ⟨_, hentered⟩ := entered_ch ch f0 f1 (s.modCh ch f) ch
    rw [hentered, State.ch_modCh_same]
    exact fun h => hmode (hf.symm.trans h)
  refine ⟨fun p hpaper hcells hnone hroom hwait => ?_, fun p f0 hpaper hcells hpend htwo hroom hwait => ?_,
    fun p f0 hpaper hempty hpend hroom hwait => ?_, fun p hpaper henters hfull hnew => ?_⟩
  · obtain ⟨hcounts, hrun⟩ := hexec (.inl (by rw [openCells_of_paper hpaper]; exact hcells))
    rw [hrun, tickRunOut_taken hcounts hlast hroom, enterRunOut_form (p := p) (by rw [hch]; exact hpaper) hcells
      (by rw [hch]; exact hnone), State.modCh_modCh]
    exact congrArg Host.Outcome.next (hplain _ _ _ rfl hwait)
  · obtain ⟨hcounts, hrun⟩ := hexec (.inl (by rw [openCells_of_paper hpaper]; exact hcells))
    rw [hrun, tickRunOut_taken hcounts hlast hroom, enterRunOut_both (p := p) (f0 := f0) (by rw [hch]; exact hpaper)
      hcells (by rw [hch]; exact hpend) (by rw [hch]; exact htwo), State.modCh_modCh]
    exact congrArg Host.Outcome.next (hplain _ _ _ rfl hwait)
  · obtain ⟨hcounts, hrun⟩ := hexec (.inr (by rw [hpend]; rfl))
    rw [hrun, tickRunOut_taken hcounts hlast hroom, enterRunOut_sheet (f0 := f0) ?_ (by rw [hch]; exact hpend),
      State.modCh_modCh]
    · exact congrArg Host.Outcome.next (hplain _ _ _ rfl hwait)
    · rw [hch]
      exact (openCells_of_paper hpaper).trans hempty
  · obtain ⟨hcounts, hrun⟩ := hexec (henters.imp (fun h => by rw [openCells_of_paper hpaper]; exact h) id)
    rw [hrun, tickRunOut_held hcounts hlast hfull,
      joinRoom_new (s := s.modCh ch fun c => { c with runOut := 0, runOutDue := true }) hnew, tickSample_plain]
    · rfl
    · rw [State.ch_with_roomWait, State.ch_modCh_same]
      exact hmode

/-- Settles O30: the head of the list can be taken with a place free, and nothing with the queue full. -/
theorem roomWaitTaken : Obligations.RoomWaitTaken := by
  refine ⟨fun ch op rest p s hlist hnew hroom hwait hbusy hstage hkind hcount hpaper hp hover hstop heject => ?_,
    fun ch rest p s hlist hnew hroom hwait hpaper hcells hnone => ?_, fun s hfull => ?_⟩
  · change execRoomWaitMove s = _
    unfold execRoomWaitMove
    rw [firstClaim_head hlist hroom]
    dsimp only
    rw [claimAlone, takeClaim_space hlist hnew hroom hbusy hstage hkind hcount hpaper hp hover hstop heject,
      settleFrom_none]
    exact (routeClose_cellWait ..).trans hwait
  · change execRoomWaitRunOut s = _
    unfold execRoomWaitRunOut
    rw [firstClaim_head hlist hroom]
    dsimp only
    rw [claimAlone, takeClaim_form hlist hnew hpaper hcells hnone, settleFrom_none]
    exact hwait
  · have hnone : firstClaim s = none := if_neg (hasPlace_of_full hfull)
    refine ⟨?_, ?_⟩
    · change execRoomWaitMove s = _
      rw [execRoomWaitMove, hnone]
    · change execRoomWaitRunOut s = _
      rw [execRoomWaitRunOut, hnone]

/-- Settles O43: a tick is stall, run-out and sample in this order; each clause names what the three find. -/
theorem channelTick : Obligations.ChannelTick := by
  intro ch s
  have htick : exec (.channelTick ch) s = .next (Machine.channelTick ch s) := rfl
  rw [htick]
  refine ⟨fun hoff => congrArg _ (channelTick_offline hoff), fun op hbusy hmode => congrArg _ ?_,
    fun hhalted hmode => congrArg _ ?_, fun hquiet hmode => ⟨fun hmore hdue henters => congrArg _ ?_,
      fun hstill => congrArg _ ?_⟩, fun op hbusy hmode => congrArg _ ?_,
    fun hhalted hmode htally hnow hbefore h11 => congrArg _ ?_, fun hquiet hmode hlast =>
      ⟨fun hrise => congrArg _ (channelTick_unrisen hquiet hmode hlast hrise), fun hrise h11 => ?_,
        fun hrise h11 hwhy => congrArg _ ?_,
        fun p m hrise hidle hpaper hp hmove hroom hstop heject => congrArg _ ?_⟩,
    fun p hquiet hmode hone hdue hpaper hp hcells hnone hwait => ?_⟩
  · have hcounts : ¬ (((s.modCh ch fun c => { c with stall := saturated c.stall 1 }).ch ch).runOutCounts = true) := by
      rw [State.ch_modCh_same, runOutCounts_iff, hbusy]
      rintro ⟨_, hq, _⟩
      cases hq
    rw [channelTick_online (by rw [hbusy]; nofun), tickStall_busy hbusy, tickRunOut_still hcounts, tickSample_plain]
    rw [State.ch_modCh_same]
    exact hmode
  · have hcounts : ¬ (s.ch ch).runOutCounts = true := by
      rw [runOutCounts_iff, hhalted]
      rintro ⟨_, hq, _⟩
      cases hq
    rw [channelTick_online (by rw [hhalted]; nofun), tickStall_free (by rw [hhalted]; rfl), tickRunOut_still hcounts,
      tickSample_plain hmode]
  · rw [channelTick_quiet hquiet, tickRunOut_more ((runOutCounts_quiet hquiet).mpr ⟨by omega, hdue, henters⟩)
      (by omega), tickSample_plain]
    rw [State.ch_modCh_same]
    exact hmode
  · have hcounts : ¬ (s.ch ch).runOutCounts = true := by
      rw [runOutCounts_quiet hquiet]
      rintro ⟨hpos, hnot, henters⟩
      obtain hzero | hdue | ⟨hopen, hsheet⟩ := hstill
      · omega
      · rw [hdue] at hnot
        cases hnot
      · rw [hopen, hsheet] at henters
        obtain henters | henters := henters <;> simp at henters
    rw [channelTick_quiet hquiet, tickRunOut_still hcounts, tickSample_plain hmode]
  · have hch : (s.modCh ch fun c => { c with stall := saturated c.stall 1 }).ch ch =
        { s.ch ch with stall := saturated (s.ch ch).stall 1 } := State.ch_modCh_same ..
    have hcounts : ¬ (((s.modCh ch fun c => { c with stall := saturated c.stall 1 }).ch ch).runOutCounts = true) := by
      rw [hch, runOutCounts_iff]
      rintro ⟨_, hq, _⟩
      change (s.ch ch).state.isQuiet = true at hq
      rw [hbusy] at hq
      cases hq
    rw [channelTick_online (by rw [hbusy]; nofun), tickStall_busy hbusy, tickRunOut_still hcounts]
    by_cases hrise : GoRises (s.ch ch)
    · rw [tickSample_rises (by rw [hch]; exact hmode) (by rw [hch]; exact hrise),
        takeGo_busy (op := op) (by rw [State.ch_modCh_same, hch]; exact hbusy), refuseGo, State.modCh_modCh,
        State.modCh_modCh]
      refine modCh_congr ?_
      obtain ⟨hnow, hbefore⟩ := hrise
      simp only [hnow, hbefore, Bool.not_false, Bool.and_self, Bool.or_true]
    · rw [tickSample_quiet (by rw [hch]; exact hmode) (by rw [hch]; exact hrise), State.modCh_modCh]
      refine modCh_congr ?_
      have hfalse : ((s.ch ch).merged.getLsbD 15 && !(s.ch ch).prevSample.getLsbD 15) = false := by
        rw [← Bool.not_eq_true, Bool.and_eq_true, Bool.not_eq_true']
        exact hrise
      simp only [hfalse, Bool.or_false]
  · have hcounts : ¬ (s.ch ch).runOutCounts = true := by
      rw [runOutCounts_iff, hhalted]
      rintro ⟨_, hq, _⟩
      cases hq
    have hch : (s.modCh ch fun c => { c with prevSample := c.merged }).ch ch =
        { s.ch ch with prevSample := (s.ch ch).merged } := State.ch_modCh_same ..
    rw [channelTick_online (by rw [hhalted]; nofun), tickStall_free (by rw [hhalted]; rfl), tickRunOut_still hcounts,
      tickSample_rises hmode ⟨hnow, hbefore⟩, takeGo_clear h11,
      goClear_taken (by rw [hch]; exact .inr (.inr hhalted)), if_pos (by rw [hch]; exact htally), State.modCh_modCh]
    refine modCh_congr ?_
    simp only [Channel.cleared, hhalted]
  · intro t
    have hch : (s.modCh ch ticked).ch ch = ticked (s.ch ch) := State.ch_modCh_same ..
    have hcleared : (s.modCh ch ticked).modCh ch Channel.cleared = t := by
      rw [State.modCh_modCh]
      refine modCh_congr ?_
      obtain h | h := hquiet <;> simp only [Channel.cleared, ticked, h]
    rw [channelTick_risen hquiet hmode hlast hrise, takeGo_clear h11,
      goClear_taken (by rw [hch]; exact hquiet.imp id .inl), hch, hcleared]
    rfl
  · have hch : (s.modCh ch ticked).ch ch = ticked (s.ch ch) := State.ch_modCh_same ..
    have honline : ((s.modCh ch ticked).ch ch).state ≠ .offline := by
      rw [hch]
      exact (quiet_online hquiet).1
    have hrefused : refuseGo ch (s.modCh ch ticked) = s.modCh ch fun c => { ticked c with reject := true } :=
      State.modCh_modCh ..
    rw [channelTick_risen hquiet hmode hlast hrise, ← hrefused]
    cases h12 : (s.ch ch).merged.getLsbD 12 with
    | true =>
      refine (takeGo_loadTape h11 h12 ..).trans (goLoad_refused ?_ honline _)
      obtain hstopped | ⟨h12', _⟩ := hwhy
      · rw [hch]
        exact fun h => nomatch hstopped.symm.trans h
      · exact absurd (h12'.symm.trans h12) nofun
    | false =>
      refine (takeGo_move h11 h12 ..).trans (goMove_refused ?_ honline ..)
      rw [hch]
      rintro ⟨hidle, hsome, hcount⟩
      obtain hstopped | ⟨_, hnone | ⟨hskip, hbad⟩⟩ := hwhy
      · exact nomatch hstopped.symm.trans hidle
      · rw [show (ticked (s.ch ch)).paper = none from hnone] at hsome
        cases hsome
      · have := (countOk_iff _).mp hcount hskip
        omega
  · have hch : (s.modCh ch ticked).ch ch = ticked (s.ch ch) := State.ch_modCh_same ..
    rw [channelTick_risen hquiet hmode hlast hrise]
    refine (takeGo_moves (s := s.modCh ch ticked) (c := s.ch ch) (p := p) (m := m) hmove (by rw [hch]; exact hidle)
      (by rw [hch]; exact hpaper) hp.pos_lt hp.twelve_le
      (roomFor_congr hroom (by rw [hch]; rfl) (by rw [hch]; rfl) rfl rfl) (by rw [hch]; exact hstop)
      (by rw [hch]; exact heject)).trans ?_
    rw [State.modCh_modCh]
    rfl
  · have hcounts : (s.ch ch).runOutCounts = true := (runOutCounts_quiet hquiet).mpr
      ⟨by omega, hdue, .inl (by rw [openCells_of_paper hpaper]; exact hcells)⟩
    have hch : (s.modCh ch fun c => { c with runOut := 0 }).ch ch = { s.ch ch with runOut := 0 } :=
      State.ch_modCh_same ..
    refine ⟨fun hroom => ?_, fun m hidle hfull hrise hmove hstay hstop heject => ?_⟩
    · intro out
      have hout : tickRunOut ch s = out := by
        rw [tickRunOut_taken hcounts hone hroom, enterRunOut_form (p := p) (by rw [hch]; exact hpaper) hcells
          (by rw [hch]; exact hnone), State.modCh_modCh]
        exact settleFrom_none hwait
      obtain ⟨clipped, hentered⟩ : ∃ clipped, out.ch ch =
          { s.ch ch with runOut := 0, paper := some (broken p), clipped := clipped } := by
        obtain ⟨clipped, h⟩ := entered_ch ch p.form none
          (s.modCh ch fun c => { c with runOut := 0, paper := some (broken p) }) ch
        exact ⟨clipped, by rw [h, State.ch_modCh_same]⟩
      have hmode' : (out.ch ch).goMode = .sampled := by rw [hentered]; exact hmode
      rw [channelTick_quiet hquiet, hout]
      refine ⟨fun hrise => congrArg _ (tickSample_quiet hmode' (by rw [hentered]; exact hrise)),
        fun m hidle hrise hmove hstay hstop heject => congrArg _ ?_⟩
      have hsampled : (out.modCh ch fun c => { c with prevSample := c.merged }).ch ch =
          { out.ch ch with prevSample := (out.ch ch).merged } := State.ch_modCh_same ..
      rw [tickSample_rises hmode' (by rw [hentered]; exact hrise), hentered]
      refine (takeGo_moves (p := broken p) (m := m) (c := s.ch ch) hmove ?_ ?_ hp.pos_lt hp.twelve_le (.inl hstay) ?_
        ?_).trans ?_
      · rw [hsampled, hentered]
        exact hidle
      · rw [hsampled, hentered]
      · rw [hsampled, hentered]
        exact hstop
      · rw [hsampled, hentered]
        exact heject
      · have hdropped : (out.modCh ch fun c => { c with prevSample := c.merged }).modCh ch
            (fun c => { c with runOutDue := false }) = out.modCh ch fun c => { c with prevSample := c.merged } := by
          refine modCh_unchanged ?_
          rw [hsampled, hentered, ← hdue]
        rw [hdropped]
        rfl
    · have hjoined : ∃ l, tickRunOut ch s =
          { s.modCh ch (fun c => { c with runOut := 0, runOutDue := true }) with roomWait := l } ∧
          (l.filter fun x => decide (x ≠ .runOut ch)) = s.roomWait.filter fun x => decide (x ≠ .runOut ch) := by
        rw [tickRunOut_held hcounts hone hfull]
        unfold joinRoom
        split
        · exact ⟨s.roomWait, rfl, rfl⟩
        · refine ⟨s.roomWait ++ [.runOut ch], rfl, ?_⟩
          rw [List.filter_append, List.filter_cons_of_neg (by simp), List.filter_nil, List.append_nil]
      obtain ⟨l, hheld, hfilter⟩ := hjoined
      have hheldch : ∀ f, (State.modCh { s.modCh ch (fun c => { c with runOut := 0, runOutDue := true }) with
          roomWait := l } ch f).ch ch = f { s.ch ch with runOut := 0, runOutDue := true } := fun f => by
        rw [State.ch_modCh_same, State.ch_with_roomWait, State.ch_modCh_same]
      have hheldch' : (State.ch { s.modCh ch (fun c => { c with runOut := 0, runOutDue := true }) with
          roomWait := l } ch) = { s.ch ch with runOut := 0, runOutDue := true } := by
        rw [State.ch_with_roomWait, State.ch_modCh_same]
      rw [channelTick_quiet hquiet, hheld, tickSample_rises (by rw [hheldch']; exact hmode) (by rw [hheldch']; exact hrise),
        hheldch']
      refine congrArg _ ((takeGo_moves (p := p) (m := m) (c := s.ch ch) hmove ?_ ?_ hp.pos_lt hp.twelve_le (.inl hstay) ?_
        ?_).trans ?_)
      · rw [hheldch]
        exact hidle
      · rw [hheldch]
        exact hpaper
      · rw [hheldch]
        exact hstop
      · rw [hheldch]
        exact heject
      · have hfinal : (({ (State.modCh { s.modCh ch (fun c => { c with runOut := 0, runOutDue := true }) with
              roomWait := l } ch (fun c => { c with prevSample := c.merged })).modCh ch
                (fun c => { c with runOutDue := false }) with
              roomWait := l.filter fun x => decide (x ≠ .runOut ch) } : State)) =
            { s.modCh ch (fun c => { c with runOut := 0, prevSample := c.merged }) with
              roomWait := s.roomWait.filter fun x => decide (x ≠ .runOut ch) } := by
          rw [hfilter, State.modCh_modCh, State.modCh_with_roomWait, State.modCh_modCh]
          have hsame : s.modCh ch (fun c => { c with runOut := 0, prevSample := c.merged, runOutDue := false }) =
              s.modCh ch fun c => { c with runOut := 0, prevSample := c.merged } := modCh_congr (by rw [← hdue])
          rw [← hsame]
        exact congrArg (fun u => (carried ch p m u).modCh ch (finished ((s.ch ch).merged.getLsbD 13))) hfinal

end Sys2Proof
end

section
/-! PROOF. A setup record whose words the shadow holds: what is copied, checked and applied (08). -/

namespace Sys2Proof.Machine
open Sys2Proof.Claims

/-! ### The record an apply copies (R138) -/

/-- Some words of a record hold values, both bytes present and none damaged. -/
def ApplyRec.HasWords (r : ApplyRec) (vals : Nat → Word) (is : List Nat) : Prop :=
  ∀ i ∈ is, r.word i = ⟨some (hiByte (vals i)), some (loByte (vals i)), false, false⟩

section
variable {r : ApplyRec} {vals : Nat → Word} {is : List Nat} {i : Nat}

theorem ApplyRec.HasWords.complete (h : r.HasWords vals is) (hi : i ∈ is) : (r.word i).complete = true := by
  rw [h i hi]
  rfl

theorem ApplyRec.HasWords.value (h : r.HasWords vals is) (hi : i ∈ is) : (r.word i).value = some (vals i) := by
  rw [h i hi, value_of_bytes]

theorem ApplyRec.HasWords.field (h : r.HasWords vals is) (hi : i ∈ is) : r.field i = vals i := by
  unfold ApplyRec.field
  rw [h.value hi]
  rfl

theorem ApplyRec.HasWords.num (h : r.HasWords vals is) (hi : i ∈ is) : r.num i = (vals i).toNat :=
  congrArg BitVec.toNat (h.field hi)

theorem ApplyRec.HasWords.kind (h : r.HasWords vals is) (hi : 0 ∈ is) : r.kind = recordKindOf (vals 0) := by
  unfold ApplyRec.kind
  rw [h.value hi]
  rfl

theorem recordList_held (h : r.HasWords vals is) {ws : List Nat} (hws : ∀ i ∈ ws, i ∈ is) (s : State) :
    s.recordList r ws = [] := by
  unfold State.recordList
  rw [List.map_eq_nil_iff, List.filter_eq_nil_iff]
  intro i hi
  rw [h.complete (hws i hi)]
  nofun

theorem payloadList_held (h : r.HasWords vals is) (hkind : 0 ∈ is)
    (hpay : ∀ k ∈ recordKindOf (vals 0), ∀ i ∈ k.payload, i ∈ is) (s : State) : s.payloadList r = [] := by
  unfold State.payloadList
  rw [h.kind hkind]
  cases hk : recordKindOf (vals 0) with
  | none => rfl
  | some k => exact recordList_held h (hpay k hk) s

end

/-- The record that an apply copies from the shadow (R138). -/
def copiedRecord (s : State) : ApplyRec :=
  { words := (List.range 18).map fun i => s.copyWord (s.wordAddr .setup i), toFetch := [], outstanding := 0 }

theorem copiedRecord_word (s : State) {i : Nat} (h : i < 18) :
    (copiedRecord s).word i = s.copyWord (s.wordAddr .setup i) :=
  getD_map_range h (fun i => s.copyWord (s.wordAddr .setup i)) _

theorem startApply_complete {s : State} (hidle : s.setup.apply = none)
    (h : ((copiedRecord s).word 0).complete = true ∧ ((copiedRecord s).word 1).complete = true) :
    startApply s = goOnApply { copiedRecord s with toFetch := s.payloadList (copiedRecord s) } s := by
  unfold startApply
  rw [hidle]
  exact if_pos (by rw [Bool.and_eq_true]; exact h)

theorem startApply_lacking {s : State} (hidle : s.setup.apply = none)
    (h : ¬ (((copiedRecord s).word 0).complete = true ∧ ((copiedRecord s).word 1).complete = true)) :
    startApply s = goOnApply { copiedRecord s with toFetch := s.recordList (copiedRecord s) [0, 1] } s := by
  unfold startApply
  rw [hidle]
  exact if_neg (by rw [Bool.and_eq_true]; exact h)

theorem goOnApply_settled {r : ApplyRec} (hlist : r.toFetch = []) (hout : r.outstanding = 0) (s : State) :
    goOnApply r s = applyRecord r { s with setup := { s.setup with apply := none } } := by
  unfold goOnApply
  rw [hlist, hout]
  rfl

theorem goOnApply_waits {r : ApplyRec} (h : r.toFetch ≠ [] ∨ r.outstanding ≠ 0) (s : State) :
    goOnApply r s =
      askPlaces .setup { s with setup := { s.setup with apply := some r, result := .pending } } := by
  unfold goOnApply
  refine if_neg ?_
  rw [Bool.and_eq_true, List.isEmpty_iff, decide_eq_true_iff]
  rintro ⟨hlist, hout⟩
  exact h.elim (fun h => h hlist) fun h => h hout

/-! ### What a kind does (R142) -/

/-- The checks and the effect of a kind of record. -/
def RecordKind.apply : RecordKind → ApplyRec → State → State
  | .channel => applyChannel
  | .layout => applyLayout
  | .xlate => applyXlate
  | .glyph => applyGlyph
  | .link => applyLink
  | .disable => applyDisable
  | .query => applyQuery

theorem applyRecord_unknown {r : ApplyRec} (h : r.kind = none) (s : State) :
    applyRecord r s = setResult .badKind s := by
  unfold applyRecord
  rw [h]

theorem applyRecord_of_kind {r : ApplyRec} {k : RecordKind} (h : r.kind = some k)
    (huses : ∀ i ∈ k.uses, (r.word i).complete = true) (s : State) : applyRecord r s = k.apply r s := by
  have hsound : ¬ ((k.uses.any fun i => !(r.word i).complete) = true) := by
    rw [List.any_eq_true]
    rintro ⟨i, hi, hbad⟩
    rw [huses i hi] at hbad
    cases hbad
  unfold applyRecord
  rw [h]
  dsimp only
  rw [if_neg hsound]
  cases k <;> rfl

theorem applyRecord_damaged {r : ApplyRec} {k : RecordKind} (h : r.kind = some k) {i : Nat} (hi : i ∈ k.uses)
    (hbad : (r.word i).complete = false) (s : State) : applyRecord r s = setResult .badValue s := by
  have hany : (k.uses.any fun i => !(r.word i).complete) = true :=
    List.any_eq_true.mpr ⟨i, hi, by rw [hbad]; rfl⟩
  unfold applyRecord
  rw [h]
  exact if_pos hany

theorem recordKindOf_unknown {v : Word} (h : v.toNat = 0 ∨ 7 < v.toNat) : recordKindOf v = none := by
  have hne : ∀ n : Word, 1 ≤ n.toNat → n.toNat ≤ 7 → v ≠ n := by
    rintro n h1 h7 rfl
    omega
  unfold recordKindOf
  rw [if_neg (hne 1 (by decide) (by decide)), if_neg (hne 2 (by decide) (by decide)),
    if_neg (hne 3 (by decide) (by decide)), if_neg (hne 4 (by decide) (by decide)),
    if_neg (hne 5 (by decide) (by decide)), if_neg (hne 6 (by decide) (by decide)),
    if_neg (hne 7 (by decide) (by decide))]

/-! ### The write of the apply word -/

/-- The state once the write of the apply word has ended any answers present (R151). -/
def answersEnded (w : BusWrite) (ans : WriteAnswer) (s : State) : State :=
  { written w ans s with setup := { s.setup with answersPresent := false } }

/-- The state in which a held record is checked: no apply record exists (R142). -/
def unapplied (w : BusWrite) (ans : WriteAnswer) (s : State) : State :=
  { written w ans s with setup := { s.setup with answersPresent := false, apply := none } }

section
variable {w : BusWrite} {vals : Nat → Word} {is : List Nat} {s : State}

theorem applied_eq (ans : WriteAnswer) (code : ResultCode) :
    setResult code (unapplied w ans s) = applied w ans code s := rfl

theorem presentWrite_apply (h : Passes (.write w) s) (hword : s.lookup w.addr = some (.setup, 18))
    (ans : WriteAnswer) : presentWrite w ans s = startApply (answersEnded w ans s) := by
  rw [presentWrite_window h hword, reportWrite_setup (s := written w ans s) hword]
  rfl

theorem copiedRecord_held {ans : WriteAnswer} (h : RecordHeld w ans vals is s) (hsmall : ∀ i ∈ is, i < 18) :
    (copiedRecord (answersEnded w ans s)).HasWords vals is := fun i hi =>
  (copiedRecord_word _ (hsmall i hi)).trans (copyWord_holds (s := answersEnded w ans s) (h i hi))

/-- A record held in the shadow is checked and applied by the write of the apply word (R138, R142). -/
theorem presentWrite_record {ans : WriteAnswer} (h : ApplyWrite w s) (hheld : RecordHeld w ans vals is s)
    (hsmall : ∀ i ∈ is, i < 18) (h0 : 0 ∈ is) (h1 : 1 ∈ is)
    (hpay : ∀ k ∈ recordKindOf (vals 0), ∀ i ∈ k.payload, i ∈ is) :
    ∃ r : ApplyRec, r.HasWords vals is ∧ presentWrite w ans s = applyRecord r (unapplied w ans s) := by
  have hwords := copiedRecord_held hheld hsmall
  refine ⟨{ copiedRecord (answersEnded w ans s) with
    toFetch := (answersEnded w ans s).payloadList (copiedRecord (answersEnded w ans s)) }, hwords, ?_⟩
  rw [presentWrite_apply h.passes h.word, startApply_complete (s := answersEnded w ans s) h.idle ⟨hwords.complete h0, hwords.complete h1⟩,
    goOnApply_settled (payloadList_held hwords h0 hpay _) rfl]
  rfl

/-- A held record of a kind has the kind's checks and effect. -/
theorem presentWrite_kind {ans : WriteAnswer} {k : RecordKind} (h : ApplyWrite w s)
    (hheld : RecordHeld w ans vals is s) (hkind : recordKindOf (vals 0) = some k) (hsmall : ∀ i ∈ is, i < 18)
    (h0 : 0 ∈ is) (h1 : 1 ∈ is) (hpay : ∀ i ∈ k.payload, i ∈ is) :
    ∃ r : ApplyRec, r.HasWords vals is ∧ presentWrite w ans s = k.apply r (unapplied w ans s) := by
  obtain ⟨r, hwords, hrecord⟩ := presentWrite_record h hheld hsmall h0 h1 fun k' hk' => by
    obtain rfl : k = k' := Option.some.inj (hkind.symm.trans hk')
    exact hpay
  refine ⟨r, hwords, hrecord.trans (applyRecord_of_kind ((hwords.kind h0).trans hkind) (fun i hi => ?_) _)⟩
  have huses : i = 1 ∨ i ∈ k.payload := by
    cases k
    case link => exact .inr hi
    all_goals exact List.mem_cons.mp hi
  obtain rfl | hi := huses
  · exact hwords.complete h1
  · exact hwords.complete (hpay i hi)

end

theorem channelOf_toNat {n : Nat} {ch : ChannelId} (h : n = ch.toNat) : channelOf n = some ch := by
  subst h
  cases ch <;> rfl

theorem channelOf_above {n : Nat} (h : 3 < n) : channelOf n = none := by
  obtain ⟨k, rfl⟩ := Nat.exists_eq_add_of_lt h
  rw [show 3 + k + 1 = k + 4 by omega]
  rfl

/-! ### Tables (R147, R148) -/

theorem getD_replaceRun {α : Type} {table new : List α} {start i : Nat} (h : start + new.length ≤ table.length)
    (d : α) : (replaceRun table start new).getD i d =
      if start ≤ i ∧ i < start + new.length then new.getD (i - start) d else table.getD i d := by
  have hstart : (table.take start).length = start := List.length_take_of_le (by omega)
  simp only [replaceRun, List.getD_eq_getElem?_getD, List.append_assoc]
  by_cases hbefore : i < start
  · rw [if_neg (by omega), List.getElem?_append_left (by omega), List.getElem?_take_of_lt hbefore]
  · rw [List.getElem?_append_right (by omega), hstart]
    by_cases hin : i < start + new.length
    · rw [if_pos ⟨by omega, hin⟩, List.getElem?_append_left (by omega)]
    · rw [if_neg (by omega), List.getElem?_append_right (by omega), List.getElem?_drop]
      congr 2
      omega

theorem allSome_eq_none {α : Type} {l : List (Option α)} (h : none ∈ l) : allSome l = none := by
  induction l with
  | nil => cases h
  | cons x xs ih =>
    cases x with
    | none => rfl
    | some a =>
      obtain h | h := List.mem_cons.mp h
      · cases h
      · rw [allSome, ih h]
        rfl

theorem allSome_map {α β : Type} {f : α → Option β} {l : List α} (h : ∀ a ∈ l, (f a).isSome = true) :
    ∃ new, allSome (l.map f) = some new ∧ new.map some = l.map f := by
  induction l with
  | nil => exact ⟨[], rfl, rfl⟩
  | cons a l ih =>
    obtain ⟨new, hnew, hmap⟩ := ih fun b hb => h b (List.mem_cons_of_mem a hb)
    obtain ⟨b, hb⟩ := Option.isSome_iff_exists.mp (h a List.mem_cons_self)
    refine ⟨b :: new, ?_, ?_⟩
    · rw [List.map_cons, hb, allSome, hnew]
      rfl
    · rw [List.map_cons, List.map_cons, hmap, hb]

theorem transEntryOf_isSome_iff (n : Nat) : (transEntryOf n).isSome = true ↔ n ≤ 63 ∨ n = 254 ∨ n = 255 := by
  unfold transEntryOf glyphOf
  split
  next h => simp [h]
  next h =>
    split
    next h' => simp [h']
    next h' =>
      split <;> simp <;> omega

theorem transEntryOf_glyph (g : Glyph) : transEntryOf g.val = some (.glyph g) := by
  have hlt := g.isLt
  unfold transEntryOf glyphOf
  rw [if_neg (by omega), if_neg (by omega), dif_pos hlt]
  rfl

theorem sixteen_getD {r : ApplyRec} {j : Nat} (h : j < 16) : r.sixteen.getD j 0 = r.field (j + 2) :=
  getD_map_range h (fun j => r.field (j + 2)) 0

end Sys2Proof.Machine

namespace Sys2Proof
open Sys2Proof.Machine Sys2Proof.Claims

/-- Settles O58: each table record is its kind's checks and effect on the words held. -/
theorem tableRecords : Obligations.TableRecords := by
  intro w ans vals s happly htables
  have hsmall : ∀ i ∈ List.range 18, i < 18 := fun i hi => List.mem_range.mp hi
  have hin : ∀ {i}, i < 18 → i ∈ List.range 18 := fun h => List.mem_range.mpr h
  have hpayload : ∀ i ∈ RecordKind.xlate.payload, i ∈ List.range 18 := by decide
  refine ⟨fun hheld hkind => ?_, fun hheld hkind => ?_, fun hheld hkind => ?_⟩
  · obtain ⟨r, hwords, hrecord⟩ := presentWrite_kind happly hheld (k := .xlate) (by rw [hkind]; rfl) hsmall
      (hin (by omega)) (hin (by omega)) hpayload
    have hrun : exec (.xlate w ans) s = .next (applyXlate r (unapplied w ans s)) := congrArg Host.Outcome.next hrecord
    have hfield : ∀ {j}, j < 16 → r.field (j + 2) = vals (j + 2) := fun h => hwords.field (hin (by omega))
    have hstart : r.num 1 = (vals 1).toNat := hwords.num (hin (by omega))
    refine ⟨fun hlow hvalid => ?_, fun hbad => ?_⟩
    · obtain ⟨new, hnew, hmap⟩ := allSome_map (f := fun v : Word => transEntryOf v.toNat) (l := r.sixteen) (by
        intro v hv
        obtain ⟨j, hj, rfl⟩ := List.mem_map.mp hv
        rw [transEntryOf_isSome_iff, hfield (List.mem_range.mp hj)]
        obtain h | h | h := hvalid j (List.mem_range.mp hj)
        · exact .inl h
        · exact .inr (.inl (by rw [h]; rfl))
        · exact .inr (.inr (by rw [h]; rfl)))
      have hlen : new.length = 16 := by
        rw [length_of_allSome hnew, List.length_map, length_sixteen]
      have htable : s.setup.translation.length = 256 := htables.1
      have hfits : r.num 1 + new.length ≤ s.setup.translation.length := by omega
      refine ⟨replaceRun s.setup.translation (r.num 1) new, ?_, ?_, fun i hi => ?_⟩
      · rw [hrun]
        unfold applyXlate
        rw [hnew]
        exact congrArg Host.Outcome.next (if_pos (by omega))
      · rw [length_replaceRun hfits, htable]
      · rw [hlen, hstart] at hfits
        have hrun : ∀ d, (replaceRun s.setup.translation (r.num 1) new).getD i d =
            if (vals 1).toNat ≤ i ∧ i < (vals 1).toNat + 16 then new.getD (i - (vals 1).toNat) d
            else s.setup.translation.getD i d := fun d => by
          rw [hstart, getD_replaceRun (by omega) d, hlen]
        by_cases hrange : (vals 1).toNat ≤ i ∧ i < (vals 1).toNat + 16
        · rw [if_pos hrange]
          have hj : i - (vals 1).toNat < 16 := by omega
          have hentry : ∀ d e, transEntryOf (vals (i - (vals 1).toNat + 2)).toNat = some e →
              new.getD (i - (vals 1).toNat) d = e := by
            intro d e he
            have hget : (new.map some)[i - (vals 1).toNat]? = some (some e) := by
              rw [hmap, List.getElem?_map, show r.sixteen[i - (vals 1).toNat]? =
                some (vals (i - (vals 1).toNat + 2)) by
                  rw [← hfield hj]; simp [ApplyRec.sixteen, hj]]
              exact congrArg some he
            rw [List.getElem?_map, Option.map_eq_some_iff] at hget
            obtain ⟨e', he', hsome⟩ := hget
            rw [List.getD_eq_getElem?_getD, he', Option.getD_some]
            exact Option.some.inj hsome
          refine ⟨fun hv => ?_, fun hv => ?_, fun g hv => ?_⟩
          · rw [hrun, if_pos hrange]
            exact hentry _ _ (by rw [hv]; rfl)
          · rw [hrun, if_pos hrange]
            exact hentry _ _ (by rw [hv]; rfl)
          · rw [hrun, if_pos hrange]
            exact hentry _ _ (by rw [hv, transEntryOf_glyph])
        · rw [if_neg hrange, hrun, if_neg hrange]
    · rw [hrun]
      refine congrArg Host.Outcome.next ?_
      unfold applyXlate
      split
      · exact applied_eq ..
      next new hnew =>
        obtain hhigh | ⟨j, hj, hlarge, h254, h255⟩ := hbad
        · exact if_neg (by omega)
        · have hnone : (r.sixteen.map fun v => transEntryOf v.toNat).contains none = true := by
            rw [List.contains_iff_mem, List.mem_map]
            refine ⟨vals (j + 2), List.mem_map.mpr ⟨j, List.mem_range.mpr hj, hfield hj⟩, ?_⟩
            rw [← Option.not_isSome_iff_eq_none, transEntryOf_isSome_iff]
            rintro (h | h | h)
            · omega
            · exact h254 (BitVec.eq_of_toNat_eq h)
            · exact h255 (BitVec.eq_of_toNat_eq h)
          rw [allSome_eq_none (List.contains_iff_mem.mp hnone)] at hnew
          cases hnew
  · obtain ⟨r, hwords, hrecord⟩ := presentWrite_kind happly hheld (k := .glyph) (by rw [hkind]; rfl) hsmall
      (hin (by omega)) (hin (by omega)) hpayload
    have hrun : exec (.glyph w ans) s = .next (applyGlyph r (unapplied w ans s)) := congrArg Host.Outcome.next hrecord
    have hstart : r.num 1 = (vals 1).toNat := hwords.num (hin (by omega))
    refine ⟨fun hlow => ?_, fun hhigh => ?_⟩
    · have htable : s.setup.glyphCodes.length = 64 := htables.2.1
      have hlen := length_sixteen r
      refine ⟨replaceRun s.setup.glyphCodes (r.num 1) r.sixteen, ?_, ?_, fun i hi => ?_⟩
      · rw [hrun]
        exact congrArg Host.Outcome.next (if_pos (by omega))
      · rw [length_replaceRun (by omega), htable]
      · rw [getD_replaceRun (by omega) 0, hlen, hstart]
        by_cases hrange : (vals 1).toNat ≤ i ∧ i < (vals 1).toNat + 16
        · rw [if_pos hrange, if_pos hrange, sixteen_getD (by omega)]
          exact hwords.field (hin (by omega))
        · rw [if_neg hrange, if_neg hrange]
    · rw [hrun]
      exact congrArg Host.Outcome.next (if_neg (by omega))
  · obtain ⟨r, hwords, hrecord⟩ := presentWrite_kind happly hheld (k := .link) (by rw [hkind]; rfl) (by decide)
      (by decide) (by decide) (by decide)
    have hrun : exec (.link w ans) s = .next (applyLink r (unapplied w ans s)) := congrArg Host.Outcome.next hrecord
    have hvalue : r.num 2 = (vals 2).toNat := hwords.num (by decide)
    rw [hrun, applyLink, hvalue]
    refine ⟨fun hlow hhigh => congrArg Host.Outcome.next (if_pos (by simp [within, hlow, hhigh])), fun hbad =>
      congrArg Host.Outcome.next (if_neg ?_)⟩
    simp only [within, Bool.and_eq_true, decide_eq_true_iff]
    omega

/-- Settles O60: the answers are those of the target's group. -/
theorem queryRecord : Obligations.QueryRecord := by
  intro w ans vals s happly hheld hkind
  obtain ⟨r, hwords, hrecord⟩ := presentWrite_kind happly hheld (k := .query) (by rw [hkind]; rfl) (by decide)
    (by decide) (by decide) (by decide)
  have hrun : exec (.query w ans) s = .next (applyQuery r (unapplied w ans s)) := congrArg Host.Outcome.next hrecord
  have htarget : r.num 1 = (vals 1).toNat := hwords.num (by decide)
  rw [hrun, applyQuery, htarget]
  refine ⟨fun ch hch => ?_, fun hdevice => ?_, fun hbad => ?_⟩
  · have hanswers : answersOf (vals 1).toNat (unapplied w ans s) = some (channelAnswers (s.ch ch)) := by
      unfold answersOf
      rw [channelOf_toNat hch]
      exact congrArg (fun c => some (channelAnswers c)) (written_ch w ans s ch)
    rw [hanswers]
    rfl
  · have hanswers : answersOf (vals 1).toNat (unapplied w ans s) = some (deviceAnswers s) := by
      rw [hdevice]
      rfl
    rw [hanswers]
    rfl
  · have hanswers : answersOf (vals 1).toNat (unapplied w ans s) = none := by
      unfold answersOf
      rw [channelOf_above (by omega)]
      exact if_neg (by omega)
    rw [hanswers]
    rfl

end Sys2Proof
end

section
/-! PROOF. CHANNEL, LAYOUT and DISABLE records, and the first writes of an apply (08). -/

namespace Sys2Proof.Machine
open Sys2Proof.Claims

section
variable {w : BusWrite} {ans : WriteAnswer} {vals : Nat → Word} {s : State} {r : ApplyRec}

@[simp] theorem unapplied_ch (w : BusWrite) (ans : WriteAnswer) (s : State) (i : ChannelId) :
    (unapplied w ans s).ch i = s.ch i := by cases i <;> rfl

/-! ### LAYOUT (R82 to R84) -/

theorem within_iff (n lo hi : Nat) : within n lo hi = true ↔ lo ≤ n ∧ n ≤ hi := by
  simp [within]

/-- Every field of a LAYOUT record is within its range (R82, R145). -/
structure LayoutFits (r : ApplyRec) : Prop where
  px : 1 ≤ r.num 2 ∧ r.num 2 ≤ 255
  py : 1 ≤ r.num 3 ∧ r.num 3 ≤ 255
  scale : 1 ≤ r.num 4 ∧ r.num 4 ≤ 8192
  slots : 1 ≤ r.num 5 ∧ r.num 5 ≤ 2
  width : 1 ≤ r.num 10 ∧ r.num 10 ≤ 65535
  height : 1 ≤ r.num 11 ∧ r.num 11 ≤ 65535
  runOut : 0 ≤ r.num 12 ∧ r.num 12 ≤ 255

/-- The layout in a record's words. -/
def layoutIn (r : ApplyRec) : Layout :=
  { geo := { px := r.num 2, py := r.num 3, scale := r.num 4, twoUp := decide (r.num 5 = 2)
             ox0 := r.num 6, oy0 := r.num 7, ox1 := r.num 8, oy1 := r.num 9
             width := r.num 10, height := r.num 11 }
    runOut := r.num 12 }

theorem layoutOf_eq_some {ch : ChannelId} (htarget : r.num 1 = ch.toNat) (h : LayoutFits r) :
    layoutOf r = some (ch, layoutIn r) := by
  obtain ⟨hpx, hpy, hscale, hslots, hwidth, hheight, hrunOut⟩ := h
  unfold layoutOf
  rw [channelOf_toNat htarget]
  refine if_pos ?_
  simp only [Bool.and_eq_true, within_iff]
  exact ⟨⟨⟨⟨⟨⟨hpx, hpy⟩, hscale⟩, hslots⟩, hwidth⟩, hheight⟩, hrunOut⟩

theorem layoutOf_eq_none (h : 3 < r.num 1 ∨ ¬ LayoutFits r) : layoutOf r = none := by
  unfold layoutOf
  cases hch : channelOf (r.num 1) with
  | none => rfl
  | some ch =>
    obtain h | h := h
    · rw [channelOf_above h] at hch
      cases hch
    · refine if_neg fun hall => h ?_
      simp only [Bool.and_eq_true, within_iff] at hall
      obtain ⟨⟨⟨⟨⟨⟨hpx, hpy⟩, hscale⟩, hslots⟩, hwidth⟩, hheight⟩, hrunOut⟩ := hall
      exact ⟨hpx, hpy, hscale, hslots, hwidth, hheight, hrunOut⟩

theorem layoutOf_words {ch : ChannelId} {l : Layout} (h : r.HasWords vals (List.range 13)) (hl : LayoutWords vals ch l) :
    layoutOf r = some (ch, l) := by
  have hnum : ∀ {i}, i < 13 → r.num i = (vals i).toNat := fun hi => h.num (List.mem_range.mpr hi)
  obtain ⟨_, htarget, hpx, hpy, hscale, hslots, ⟨hox0, hoy0, hox1, hoy1⟩, hwidth, hheight, hrunOut⟩ := hl
  have hfits : LayoutFits r := by
    have h10 := (vals 10).isLt
    have h11 := (vals 11).isLt
    constructor
    all_goals rw [hnum (by omega)]
    case slots => rw [hslots]; split <;> omega
    all_goals omega
  rw [layoutOf_eq_some ((hnum (by omega)).trans htarget) hfits]
  refine congrArg (fun l => some (ch, l)) ?_
  have hup : decide (r.num 5 = 2) = l.geo.twoUp := by
    rw [hnum (by omega), hslots]
    cases l.geo.twoUp <;> rfl
  unfold layoutIn
  rw [hup, hnum (i := 2) (by omega), hnum (i := 3) (by omega), hnum (i := 4) (by omega), hnum (i := 6) (by omega),
    hnum (i := 7) (by omega), hnum (i := 8) (by omega), hnum (i := 9) (by omega), hnum (i := 10) (by omega),
    hnum (i := 11) (by omega), hnum (i := 12) (by omega), hpx.1, hpy.1, hscale.1, hox0, hoy0, hox1, hoy1, hwidth.1,
    hheight.1, hrunOut.1]

theorem layoutSet_eq (ch : ChannelId) (l : Layout) (s : State) :
    setResult .done (dropRunOut ch (s.modCh ch fun c => { c with layout := l, runOut := l.runOut })) =
      layoutSet ch l (setResult .done s) := by
  cases ch <;> rfl

theorem applyLayout_replaces {ch : ChannelId} {l : Layout} (h : layoutOf r = some (ch, l))
    (hstays : (s.ch ch).layout.geo.twoUp = false ∨ l.geo.twoUp = true ∨ (s.ch ch).pendSheet = none) :
    applyLayout r s = layoutSet ch l (setResult .done s) := by
  have hreleases : layoutReleases ch l s = false := by
    unfold layoutReleases
    obtain h | h | h := hstays <;> simp [h]
  unfold applyLayout
  rw [h]
  dsimp only
  rw [hreleases, Bool.false_and, if_neg nofun, if_neg nofun, ← layoutSet_eq]
  exact congrArg _ (settleFrom_same (le_refl s.freeCells))

theorem layoutReleases_of_sheet {ch : ChannelId} {l : Layout} {f0 : Form} (htwo : (s.ch ch).layout.geo.twoUp = true)
    (hone : l.geo.twoUp = false) (hpend : (s.ch ch).pendSheet = some f0) : layoutReleases ch l s = true := by
  unfold layoutReleases
  rw [htwo, hone, hpend]
  rfl

theorem applyLayout_releases {ch : ChannelId} {l : Layout} {f0 : Form} (h : layoutOf r = some (ch, l))
    (htwo : (s.ch ch).layout.geo.twoUp = true) (hone : l.geo.twoUp = false)
    (hpend : (s.ch ch).pendSheet = some f0) (hroom : s.queue.length < 8) (hwait : s.cellWait = []) :
    applyLayout r s = layoutSet ch l (entered ch f0 none
      ((setResult .done s).modCh ch fun c => { c with pendSheet := none })) := by
  unfold applyLayout
  rw [h]
  dsimp only
  rw [layoutReleases_of_sheet htwo hone hpend, Bool.true_and, hasPlace_of_room hroom, if_neg nofun, if_pos rfl,
    releaseSheet_some hpend]
  have hsettled : settleFrom s.freeCells (dropRunOut ch ((entered ch f0 none
        (s.modCh ch fun c => { c with pendSheet := none })).modCh ch fun c =>
          { c with layout := l, runOut := l.runOut })) =
      dropRunOut ch ((entered ch f0 none (s.modCh ch fun c => { c with pendSheet := none })).modCh ch fun c =>
        { c with layout := l, runOut := l.runOut }) :=
    settleFrom_none (by rw [dropRunOut_cellWait, State.modCh_cellWait, entered_cellWait, State.modCh_cellWait, hwait])
  rw [hsettled, layoutSet_eq]
  refine congrArg (layoutSet ch l) ?_
  cases ch <;> rfl

theorem applyLayout_busy {ch : ChannelId} {l : Layout} {f0 : Form} (h : layoutOf r = some (ch, l))
    (htwo : (s.ch ch).layout.geo.twoUp = true) (hone : l.geo.twoUp = false)
    (hpend : (s.ch ch).pendSheet = some f0) (hfull : 8 ≤ s.queue.length) : applyLayout r s = setResult .busy s := by
  unfold applyLayout
  rw [h]
  exact if_pos (by rw [layoutReleases_of_sheet htwo hone hpend]; simpa using hasPlace_of_full hfull)

/-! ### DISABLE (R79, R149) -/

theorem disposeForms_eq {ch : ChannelId} (htwo : (s.ch ch).pendSheet.isSome = true → (s.ch ch).layout.geo.twoUp = true) :
    disposeForms ch s = disposed ch (s.ch ch) s := by
  have hch : ∀ f, (s.modCh ch f).ch ch = f (s.ch ch) := fun f => State.ch_modCh_same ..
  unfold disposeForms disposed
  cases hpaper : (s.ch ch).paper with
  | none =>
    cases hpend : (s.ch ch).pendSheet with
    | none =>
      dsimp only
      rw [releaseSheet_none hpend]
      exact (modCh_unchanged (by rw [← hpaper, ← hpend])).symm
    | some f0 =>
      dsimp only
      rw [releaseSheet_some hpend]
      exact congrArg _ (modCh_congr (by rw [← hpaper]))
  | some p =>
    dsimp only
    by_cases hcells : 0 < p.form.cellCount
    · rw [if_pos hcells]
      cases hpend : (s.ch ch).pendSheet with
      | none =>
        dsimp only
        rw [if_pos hcells]
        cases htwo : (s.ch ch).layout.geo.twoUp with
        | false =>
          rw [routeClose_oneUp (by rw [hch]; exact htwo), releaseSheet_none (by rw [pendSheet_entered, hch]; exact hpend)]
          exact congrArg _ (modCh_congr (by rw [← hpend]))
        | true =>
          rw [routeClose_first (by rw [hch]; exact htwo) (by rw [hch]; exact hpend), State.modCh_modCh,
            releaseSheet_some (f0 := p.form) (by rw [hch]), State.modCh_modCh]
      | some f0 =>
        dsimp only
        rw [if_pos hcells, routeClose_second (f0 := f0) (by rw [hch]; exact htwo (by rw [hpend]; rfl))
          (by rw [hch]; exact hpend), State.modCh_modCh, releaseSheet_none (by rw [pendSheet_entered, hch])]
    · rw [if_neg hcells]
      cases hpend : (s.ch ch).pendSheet with
      | none =>
        dsimp only
        rw [if_neg hcells, releaseSheet_none (by rw [hch]; exact hpend)]
        exact modCh_congr (by rw [← hpend])
      | some f0 =>
        dsimp only
        rw [if_neg hcells, releaseSheet_some (f0 := f0) (by rw [hch]; exact hpend), State.modCh_modCh]

theorem disposed_setResult (ch : ChannelId) (c : Channel) (code : ResultCode) (s : State) :
    disposed ch c (setResult code s) = setResult code (disposed ch c s) := by
  unfold disposed
  cases c.pendSheet <;> cases c.paper
  case none.none => cases ch <;> rfl
  case some.none => cases ch <;> rfl
  all_goals
    dsimp only
    split <;> cases ch <;> rfl

/-- A disposal leaves windows, shadow and wait lists alone. -/
theorem disposed_kept (ch : ChannelId) (c : Channel) (s : State) :
    (disposed ch c s).windows = s.windows ∧ (disposed ch c s).shadow = s.shadow ∧
      (disposed ch c s).roomWait = s.roomWait ∧ (disposed ch c s).cellWait = s.cellWait := by
  unfold disposed
  cases c.pendSheet <;> cases c.paper
  case none.none => exact ⟨rfl, rfl, rfl, rfl⟩
  case some.none => exact ⟨rfl, rfl, rfl, rfl⟩
  all_goals
    dsimp only
    split <;> exact ⟨rfl, rfl, rfl, rfl⟩

theorem disabled_eq (ch : ChannelId) (s : State) :
    setResult .done (unbindWindows ch ((dropRunOut ch s).modCh ch Channel.disabled)) =
      { (setResult .done s).modCh ch (fun c =>
            { c with state := .offline, runOutDue := false, request := false, done := false
                     reject := false, check := false, formStop := false, pendStop := false
                     pendEject := false, overflow := false, ch9 := false }) with
        windows := s.otherWindows ch
        roomWait := s.roomWait.filter fun x => decide (x ≠ .runOut ch)
        shadow := s.shadow.eraseWindows (s.channelWindows ch) } := by
  cases ch <;> rfl

theorem Memory.read_eraseWindows (m : Memory) (ws : List Window) (b : Nat) :
    ((∃ v ∈ ws, InWindow v b) → (m.eraseWindows ws).read b = none) ∧
      ((¬ ∃ v ∈ ws, InWindow v b) → (m.eraseWindows ws).read b = m.read b) := by
  induction ws generalizing m with
  | nil => exact ⟨fun ⟨_, hv, _⟩ => absurd hv nofun, fun _ => rfl⟩
  | cons v ws ih =>
    obtain ⟨hgone, hkept⟩ := ih (m.eraseWords v.base v.role.length)
    have hread := Memory.read_eraseWords m v.base v.role.length b
    by_cases hrest : ∃ v ∈ ws, InWindow v b
    · refine ⟨fun _ => hgone hrest, fun hnot => absurd ?_ hnot⟩
      obtain ⟨u, hu, hin⟩ := hrest
      exact ⟨u, List.mem_cons_of_mem v hu, hin⟩
    · by_cases hv : InWindow v b
      · exact ⟨fun _ => (hkept hrest).trans (hread.trans (if_pos hv)),
          fun hnot => absurd ⟨v, List.mem_cons_self, hv⟩ hnot⟩
      · refine ⟨fun ⟨u, hu, hin⟩ => ?_, fun _ => (hkept hrest).trans (hread.trans (if_neg hv))⟩
        obtain rfl | hu := List.mem_cons.mp hu
        · exact absurd hin hv
        · exact absurd ⟨u, hu, hin⟩ hrest

theorem mem_channelWindows {s : State} {ch : ChannelId} {v : Window} :
    v ∈ s.channelWindows ch ↔ v ∈ s.windows ∧ v.role.channel = some ch := by
  unfold State.channelWindows
  rw [List.mem_filter, decide_eq_true_iff]

theorem mem_otherWindows {s : State} {ch : ChannelId} {v : Window} :
    v ∈ s.otherWindows ch ↔ v ∈ s.windows ∧ v.role.channel ≠ some ch := by
  unfold State.otherWindows
  rw [List.mem_filter, decide_eq_true_iff]

theorem exists_channelWindows {s : State} {ch : ChannelId} {b : Nat} :
    (∃ v ∈ s.channelWindows ch, InWindow v b) ↔ ∃ v ∈ s.windows, v.role.channel = some ch ∧ InWindow v b := by
  simp only [mem_channelWindows, and_assoc]

/-! ### CHANNEL (R123, R142 to R144) -/

theorem baseOf_words {hi lo : Word} {a : Addr} {limit : Nat} (h : a.toNat = hi.toNat * 65536 + lo.toNat)
    (hlimit : a.toNat ≤ limit) : baseOf hi lo limit = some a := by
  have ha := a.isLt
  unfold baseOf
  rw [if_pos ⟨by omega, by omega⟩, ← h, BitVec.ofNat_toNat, BitVec.setWidth_eq]

theorem baseOf_isSome {hi lo : Word} {a : Addr} {limit : Nat} (h : baseOf hi lo limit = some a) :
    hi.toNat ≤ 15 ∧ hi.toNat * 65536 + lo.toNat ≤ limit := by
  unfold baseOf at h
  split at h
  · assumption
  · cases h

theorem goModeOf_isSome {v : Word} {m : GoMode} (h : goModeOf v = some m) : v.toNat ≤ 2 := by
  unfold goModeOf at h
  split_ifs at h with h0 h1 h2
  all_goals subst v; decide

theorem policyOf_isSome {v : Word} {p : Policy} (h : policyOf v = some p) : v.toNat ≤ 2 := by
  unfold policyOf at h
  split_ifs at h with h0 h1 h2
  all_goals subst v; decide

theorem glyphOf_val (g : Glyph) : glyphOf g.val = some g := dif_pos g.isLt

theorem glyphOf_isSome {n : Nat} {g : Glyph} (h : glyphOf n = some g) : n ≤ 63 := by
  unfold glyphOf at h
  split at h
  · omega
  · cases h

theorem shiftOf_isSome {v : Word} {x : Int} (h : shiftOf v = some x) : -32 ≤ v.toInt ∧ v.toInt ≤ 32 := by
  unfold shiftOf at h
  split at h
  · assumption
  · cases h

theorem channelRecordOf_words {x : ChannelRecord} (h : r.HasWords vals (List.range 12)) (hx : ChannelWords vals x) :
    channelRecordOf r = some x := by
  have hfield : ∀ {i}, i < 12 → r.field i = vals i := fun hi => h.field (List.mem_range.mpr hi)
  have hnum : ∀ {i}, i < 12 → r.num i = (vals i).toNat := fun hi => h.num (List.mem_range.mpr hi)
  obtain ⟨_, htarget, hcontrol, hpages, htape, hgo, hpolicy, hglyph, hshift⟩ := hx
  have hgo' : goModeOf (vals 8) = some x.goMode := by
    obtain ⟨hv, hm⟩ | ⟨hv, hm⟩ | ⟨hv, hm⟩ := hgo <;> rw [hv, hm] <;> rfl
  have hpolicy' : policyOf (vals 9) = some x.policy := by
    obtain ⟨hv, hm⟩ | ⟨hv, hm⟩ | ⟨hv, hm⟩ := hpolicy <;> rw [hv, hm] <;> rfl
  have hshift' : shiftOf (vals 11) = some x.shift := by
    unfold shiftOf
    rw [hshift.1, if_pos hshift.2]
  unfold channelRecordOf
  rw [hnum (i := 1) (by omega), hnum (i := 10) (by omega), hfield (i := 2) (by omega), hfield (i := 3) (by omega),
    hfield (i := 4) (by omega), hfield (i := 5) (by omega), hfield (i := 6) (by omega), hfield (i := 7) (by omega),
    hfield (i := 8) (by omega), hfield (i := 9) (by omega), hfield (i := 11) (by omega), channelOf_toNat htarget,
    baseOf_words hcontrol.1 hcontrol.2, baseOf_words hpages.1 hpages.2, baseOf_words htape.1 htape.2, hgo', hpolicy',
    hglyph, glyphOf_val, hshift']
  rfl

theorem channelRecordOf_bad (h : r.HasWords vals (List.range 12))
    (hbad : 3 < (vals 1).toNat ∨ 15 < (vals 2).toNat ∨ 1048572 < (vals 2).toNat * 65536 + (vals 3).toNat ∨
        15 < (vals 4).toNat ∨ 1048416 < (vals 4).toNat * 65536 + (vals 5).toNat ∨
        15 < (vals 6).toNat ∨ 1048383 < (vals 6).toNat * 65536 + (vals 7).toNat ∨
        2 < (vals 8).toNat ∨ 2 < (vals 9).toNat ∨ 63 < (vals 10).toNat ∨ (vals 11).toInt < -32 ∨
        32 < (vals 11).toInt) : channelRecordOf r = none := by
  have hfield : ∀ {i}, i < 12 → r.field i = vals i := fun hi => h.field (List.mem_range.mpr hi)
  have hnum : ∀ {i}, i < 12 → r.num i = (vals i).toNat := fun hi => h.num (List.mem_range.mpr hi)
  rw [Option.eq_none_iff_forall_ne_some]
  intro x hx
  unfold channelRecordOf at hx
  rw [hnum (i := 1) (by omega), hnum (i := 10) (by omega), hfield (i := 2) (by omega), hfield (i := 3) (by omega),
    hfield (i := 4) (by omega), hfield (i := 5) (by omega), hfield (i := 6) (by omega), hfield (i := 7) (by omega),
    hfield (i := 8) (by omega), hfield (i := 9) (by omega), hfield (i := 11) (by omega)] at hx
  simp only [Option.bind_eq_bind, Option.bind_eq_some_iff, Option.pure_def, Option.some.injEq] at hx
  obtain ⟨ch, hch, _, hcontrol, _, hpages, _, htape, _, hgo, _, hpolicy, _, hglyph, _, hshift, _⟩ := hx
  have htarget : (vals 1).toNat ≤ 3 := by
    by_contra hhigh
    rw [channelOf_above (by omega)] at hch
    cases hch
  have hcontrol := baseOf_isSome hcontrol
  have hpages := baseOf_isSome hpages
  have htape := baseOf_isSome htape
  have hgo := goModeOf_isSome hgo
  have hpolicy := policyOf_isSome hpolicy
  have hglyph := glyphOf_isSome hglyph
  have hshift := shiftOf_isSome hshift
  omega

theorem overlaps_iff_share (u v : Window) : u.overlaps v = true ↔ Share u v := by
  have hlen : ∀ x : Window, 0 < x.role.length := fun x => by cases x.role <;> exact Nat.succ_pos _
  have hu := hlen u
  have hv := hlen v
  unfold Window.overlaps Share
  simp only [Window.covers_iff, Bool.and_eq_true, decide_eq_true_iff]
  constructor
  · rintro ⟨h1, h2⟩
    by_cases hle : u.base.toNat ≤ v.base.toNat
    · exact ⟨v.base, ⟨hle, h2⟩, le_refl _, by omega⟩
    · exact ⟨u.base, ⟨le_refl _, by omega⟩, by omega, h1⟩
  · rintro ⟨a, ⟨h1, h2⟩, h3, h4⟩
    omega

theorem windowClash_iff (x : ChannelRecord) (s : State) : windowClash x s = true ↔ Clashes x s := by
  unfold windowClash Clashes
  simp only [Bool.or_eq_true, List.any_eq_true, overlaps_iff_share, mem_otherWindows, ChannelRecord.windows,
    or_assoc]
  refine or_congr Iff.rfl (or_congr Iff.rfl (or_congr Iff.rfl ⟨?_, ?_⟩))
  · rintro ⟨u, hu, v, ⟨hv, hrole⟩, hshare⟩
    rw [← overlaps_iff_share, Window.overlaps_comm, overlaps_iff_share] at hshare
    refine ⟨v, hv, hrole, ?_⟩
    simp only [List.mem_cons, List.not_mem_nil, or_false] at hu
    obtain rfl | rfl | rfl := hu
    · exact .inl hshare
    · exact .inr (.inl hshare)
    · exact .inr (.inr hshare)
  · rintro ⟨v, hv, hrole, hshare⟩
    have hswap : ∀ u, Share v u → Share u v := fun u h => by
      rw [← overlaps_iff_share, Window.overlaps_comm, overlaps_iff_share]
      exact h
    obtain h | h | h := hshare
    · exact ⟨_, by simp, v, ⟨hv, hrole⟩, hswap _ h⟩
    · exact ⟨_, by simp, v, ⟨hv, hrole⟩, hswap _ h⟩
    · exact ⟨_, by simp, v, ⟨hv, hrole⟩, hswap _ h⟩

theorem bound_eq_boundBy (x : ChannelRecord) (c : Channel) : c.bound x = boundBy x c := by
  obtain ⟨st⟩ := c
  cases st <;> rfl

theorem bindable_iff (st : ChState) :
    st.bindable = true ↔ st = .offline ∨ st = .idle ∨ st = .stopped := by
  cases st <;> simp [ChState.bindable]

theorem binding_eq (ans : WriteAnswer) (x : ChannelRecord) (s : State) :
    setResult .done ((bindWindows x (unapplied w ans s)).modCh x.target (boundBy x)) =
      { (applied w ans .done s).modCh x.target (boundBy x) with
        windows := s.otherWindows x.target ++ x.windows
        shadow := ((unapplied w ans s).shadow.eraseWindows ((unapplied w ans s).channelWindows x.target)).eraseWindows
          x.windows } := by
  obtain ⟨target⟩ := x
  cases target <;> rfl

theorem applyChannel_busy {x : ChannelRecord} (h : channelRecordOf r = some x)
    (hbusy : ¬ (s.ch x.target).state.bindable = true) : applyChannel r s = setResult .busy s := by
  unfold applyChannel
  rw [h]
  exact if_pos (by simpa using hbusy)

theorem applyChannel_overlap {x : ChannelRecord} (h : channelRecordOf r = some x)
    (hfree : (s.ch x.target).state.bindable = true) (hclash : Clashes x s) :
    applyChannel r s = setResult .overlap s := by
  unfold applyChannel
  rw [h]
  dsimp only
  rw [hfree, if_neg nofun]
  exact if_pos ((windowClash_iff x s).mpr hclash)

theorem applyChannel_binds {x : ChannelRecord} (h : channelRecordOf r = some x)
    (hfree : (s.ch x.target).state.bindable = true) (hclear : ¬ Clashes x s) :
    applyChannel r s = setResult .done ((bindWindows x s).modCh x.target (boundBy x)) := by
  unfold applyChannel
  rw [h]
  dsimp only
  rw [hfree, if_neg nofun, if_neg fun h => hclear ((windowClash_iff x s).mp h)]
  exact congrArg _ (modCh_congr (bound_eq_boundBy ..))

end

end Sys2Proof.Machine

namespace Sys2Proof
open Sys2Proof.Machine Sys2Proof.Claims

/-- Settles O56: the checks of a CHANNEL record in their order, and the binding. -/
theorem channelRecordApplied : Obligations.ChannelRecordApplied := by
  intro w ans vals x s happly hheld
  have hrun : vals 0 = 1 → ∃ r : ApplyRec, r.HasWords vals (List.range 12) ∧
      exec (.channel w ans) s = .next (applyChannel r (unapplied w ans s)) := fun hkind => by
    obtain ⟨r, hwords, hrecord⟩ := presentWrite_kind happly hheld (k := .channel) (by rw [hkind]; rfl)
      (fun i hi => (List.mem_range.mp hi).trans (by omega)) (by decide) (by decide) (by decide)
    exact ⟨r, hwords, congrArg Host.Outcome.next hrecord⟩
  refine ⟨fun hx => ?_, fun hkind hbad => ?_⟩
  · obtain ⟨r, hwords, hexec⟩ := hrun hx.kind
    have hx' := channelRecordOf_words hwords hx
    have hch := unapplied_ch w ans s x.target
    rw [hexec]
    refine ⟨fun hbusy => ?_, fun hfree => ?_⟩
    · refine congrArg Host.Outcome.next (applyChannel_busy hx' ?_)
      rw [hch, bindable_iff]
      rintro (h | h | h) <;> obtain ⟨op, hop⟩ | hop := hbusy <;> exact nomatch h.symm.trans hop
    · have hbind : ((unapplied w ans s).ch x.target).state.bindable = true := by
        rw [hch, bindable_iff]
        exact hfree
      refine ⟨fun hclash => congrArg Host.Outcome.next (applyChannel_overlap hx' hbind hclash),
        fun hclear => ?_⟩
      refine ⟨((unapplied w ans s).shadow.eraseWindows ((unapplied w ans s).channelWindows x.target)).eraseWindows
        x.windows, congrArg Host.Outcome.next ((applyChannel_binds hx' hbind hclear).trans
          (binding_eq ans x s)), fun b => ?_⟩
      obtain ⟨hnew, hnotNew⟩ := Memory.read_eraseWindows
        ((unapplied w ans s).shadow.eraseWindows ((unapplied w ans s).channelWindows x.target)) x.windows b
      obtain ⟨hold, hnotOld⟩ := Memory.read_eraseWindows (unapplied w ans s).shadow
        ((unapplied w ans s).channelWindows x.target) b
      rw [exists_channelWindows] at hold hnotOld
      refine ⟨fun hgone => ?_, fun hfresh hstays => (hnotNew hfresh).trans (hnotOld hstays)⟩
      by_cases hfresh : ∃ v ∈ x.windows, InWindow v b
      · exact hnew hfresh
      · exact (hnotNew hfresh).trans (hold (hgone.resolve_left hfresh))
  · obtain ⟨r, hwords, hexec⟩ := hrun hkind
    rw [hexec, applyChannel, channelRecordOf_bad hwords hbad]
    rfl

/-- Settles O57: the layout replaced, after the release that 2-up to 1-up asks for. -/
theorem layoutRecordApplied : Obligations.LayoutRecordApplied := by
  intro w ans vals s happly hheld
  have hrun : vals 0 = 2 → ∃ r : ApplyRec, r.HasWords vals (List.range 13) ∧
      exec (.layout w ans) s = .next (applyLayout r (unapplied w ans s)) := fun hkind => by
    obtain ⟨r, hwords, hrecord⟩ := presentWrite_kind happly hheld (k := .layout) (by rw [hkind]; rfl)
      (fun i hi => (List.mem_range.mp hi).trans (by omega)) (by decide) (by decide) (by decide)
    exact ⟨r, hwords, congrArg Host.Outcome.next hrecord⟩
  refine ⟨fun ch l hl => ?_, fun hkind hbad => ?_⟩
  · obtain ⟨r, hwords, hexec⟩ := hrun hl.kind
    have hl' := layoutOf_words hwords hl
    have hch := unapplied_ch w ans s ch
    rw [hexec]
    refine ⟨fun hstays => congrArg Host.Outcome.next (applyLayout_replaces hl' (by rw [hch]; exact hstays)),
      fun f0 htwo hone hpend => ⟨fun hroom hwait => congrArg Host.Outcome.next
        (applyLayout_releases hl' (by rw [hch]; exact htwo) hone (by rw [hch]; exact hpend) hroom hwait),
      fun hfull => congrArg Host.Outcome.next
        (applyLayout_busy hl' (by rw [hch]; exact htwo) hone (by rw [hch]; exact hpend) hfull)⟩⟩
  · obtain ⟨r, hwords, hexec⟩ := hrun hkind
    have hnum : ∀ {i}, i < 13 → r.num i = (vals i).toNat := fun hi => hwords.num (List.mem_range.mpr hi)
    have hnone : layoutOf r = none := by
      refine layoutOf_eq_none ?_
      rw [hnum (by omega)]
      refine or_iff_not_imp_left.mpr fun hlow hfits => ?_
      obtain ⟨hpx, hpy, hscale, hslots, hwidth, hheight, hrunOut⟩ := hfits
      rw [hnum (by omega)] at hpx hpy hscale hslots hwidth hheight hrunOut
      omega
    rw [hexec, applyLayout, hnone]
    rfl

/-- Settles O59: nothing OFFLINE, BUSY while it works or the queue is full, and otherwise the disposal. -/
theorem disableRecord : Obligations.DisableRecord := by
  intro w ans vals ch s happly hheld hkind
  obtain ⟨r, hwords, hrecord⟩ := presentWrite_kind happly hheld (k := .disable) (by rw [hkind]; rfl) (by decide)
    (by decide) (by decide) (by decide)
  have hrun : exec (.disable w ans) s = .next (applyDisable r (unapplied w ans s)) := congrArg Host.Outcome.next hrecord
  have htarget : r.num 1 = (vals 1).toNat := hwords.num (by decide)
  rw [hrun, applyDisable, htarget]
  refine ⟨fun hbad => ?_, fun hch => ?_⟩
  · rw [channelOf_above (by omega)]
    rfl
  rw [channelOf_toNat hch]
  dsimp only
  rw [unapplied_ch]
  refine ⟨fun hoff => ?_, fun op hbusy => ?_, fun hfree => ?_⟩
  · rw [hoff]
    rfl
  · rw [hbusy]
    rfl
  have henters : (s.ch ch).runOutEnters = true ↔ 0 < (s.ch ch).openCells ∨ (s.ch ch).pendSheet.isSome = true :=
    runOutEnters_iff _
  refine ⟨fun hholds hfull => ?_, fun hroom hwait htwo => ?_⟩
  · have hfull' : ((s.ch ch).runOutEnters && !(unapplied w ans s).hasPlace) = true := by
      rw [henters.mpr hholds]
      simpa using hasPlace_of_full (s := unapplied w ans s) hfull
    obtain h | h | h := hfree <;> rw [h] <;> exact congrArg Host.Outcome.next (if_pos hfull')
  · have hroom' : ¬ ((s.ch ch).runOutEnters && !(unapplied w ans s).hasPlace) = true := by
      obtain hroom | ⟨hcells, hnone⟩ := hroom
      · rw [hasPlace_of_room (s := unapplied w ans s) hroom, Bool.not_true, Bool.and_false]
        nofun
      · rw [Bool.and_eq_true, henters, hcells, hnone]
        rintro ⟨h | h, _⟩ <;> cases h
    have hdisposed : disposeForms ch (unapplied w ans s) = disposed ch (s.ch ch) (unapplied w ans s) := by
      rw [disposeForms_eq (by rw [unapplied_ch]; exact htwo), unapplied_ch]
    obtain ⟨hwindows, hshadow, hclaims, hcells⟩ := disposed_kept ch (s.ch ch) (unapplied w ans s)
    have hsettled : settleFrom (unapplied w ans s).freeCells (unbindWindows ch
          ((dropRunOut ch (disposeForms ch (unapplied w ans s))).modCh ch Channel.disabled)) =
        unbindWindows ch ((dropRunOut ch (disposed ch (s.ch ch) (unapplied w ans s))).modCh ch Channel.disabled) := by
      rw [hdisposed]
      exact settleFrom_none (hcells.trans hwait)
    have hfinal : setResult .done (unbindWindows ch
          ((dropRunOut ch (disposed ch (s.ch ch) (unapplied w ans s))).modCh ch Channel.disabled)) =
        { (disposed ch (s.ch ch) (applied w ans .done s)).modCh ch (fun c =>
              { c with state := .offline, runOutDue := false, request := false, done := false
                       reject := false, check := false, formStop := false, pendStop := false
                       pendEject := false, overflow := false, ch9 := false }) with
          windows := s.otherWindows ch
          roomWait := s.roomWait.filter fun x => decide (x ≠ .runOut ch)
          shadow := (unapplied w ans s).shadow.eraseWindows (s.channelWindows ch) } := by
      have hothers : (disposed ch (s.ch ch) (unapplied w ans s)).otherWindows ch = s.otherWindows ch :=
        congrArg (List.filter _) hwindows
      have howns : (disposed ch (s.ch ch) (unapplied w ans s)).channelWindows ch = s.channelWindows ch :=
        congrArg (List.filter _) hwindows
      rw [disabled_eq, ← disposed_setResult, applied_eq, hothers, howns, hshadow, hclaims]
      rfl
    refine ⟨(unapplied w ans s).shadow.eraseWindows (s.channelWindows ch), ?_, fun b => ?_⟩
    · have hdone : setResult .done (settleFrom (unapplied w ans s).freeCells (unbindWindows ch
          ((dropRunOut ch (disposeForms ch (unapplied w ans s))).modCh ch Channel.disabled))) = _ :=
        (congrArg (setResult .done) hsettled).trans hfinal
      obtain h | h | h := hfree <;> rw [h] <;>
        exact congrArg Host.Outcome.next ((if_neg hroom').trans hdone)
    · have hread := Memory.read_eraseWindows (unapplied w ans s).shadow (s.channelWindows ch) b
      rw [exists_channelWindows] at hread
      exact hread

end Sys2Proof
end

section
/-! PROOF. Fetch places: what a requester is granted, the TAKING that goes on, and the GOs that begin it (R24 to
R28, R43 to R46, R130). -/

namespace Sys2Proof.Machine
open Sys2Proof.Claims

/-! ### Granting places (R28, R130) -/

/-- How a requester keeps its record: `holds l n s` is s with the words l listed and n fetches outstanding. -/
structure Lists (req : Requester) (holds : List FetchWord → Nat → State → State) : Prop where
  listed : ∀ l n s, (holds l n s).listed req = l
  given : ∀ f l n s, (holds (f :: l) n s).giveListed req = holds l (n + 1) s
  queue : ∀ l n s, (holds l n s).ownQueue = s.ownQueue
  waits : ∀ l n s, (holds l n s).placeWait = s.placeWait
  moved : ∀ l n s q pw, { holds l n s with ownQueue := q, placeWait := pw } =
    holds l n { s with ownQueue := q, placeWait := pw }

theorem grantPlaces_idle (k : Nat) {s : State} (h : s.placeWait = []) : grantPlaces k s = s := by
  induction k with
  | zero => rfl
  | succ k ih =>
    have hgrant : grantPlace s = s := by
      unfold grantPlace
      rw [h]
    rw [grantPlaces, hgrant, ih]

theorem grantPlaces_lists {req : Requester} {holds : List FetchWord → Nat → State → State} (hl : Lists req holds)
    (k : Nat) : ∀ (ws : List FetchWord) (n : Nat) (s : State), ws ≠ [] → s.placeWait = [req] →
      grantPlaces k (holds ws n s) = holds (ws.drop k) (n + min ws.length k)
        { s with
          ownQueue := s.ownQueue ++ (ws.take k).map (OwnEntry.fetch req)
          placeWait := if ws.length ≤ k then [] else [req] } := by
  induction k with
  | zero =>
    intro ws n s hws hreq
    have hlen : ¬ ws.length ≤ 0 := by simpa using hws
    rw [grantPlaces, if_neg hlen, List.drop_zero, Nat.min_zero, Nat.add_zero, List.take_zero, List.map_nil,
      List.append_nil, ← hreq]
  | succ k ih =>
    intro ws n s hws hreq
    obtain _ | ⟨f, more⟩ := ws
    · exact absurd rfl hws
    have hgrant : grantPlace (holds (f :: more) n s) = holds more (n + 1)
        { s with
          ownQueue := s.ownQueue ++ [.fetch req f]
          placeWait := if more.isEmpty then [] else [req] } := by
      unfold grantPlace
      rw [hl.waits, hreq]
      dsimp only
      rw [hl.listed]
      dsimp only
      rw [hl.given, hl.queue, List.nil_append]
      exact hl.moved ..
    rw [grantPlaces, hgrant]
    obtain _ | ⟨f', rest⟩ := more
    · rw [grantPlaces_idle k (by rw [hl.waits]; rfl)]
      simp
    · rw [ih (f' :: rest) (n + 1) _ (List.cons_ne_nil _ _) rfl]
      have hmin : n + 1 + min (f' :: rest).length k = n + min (f :: f' :: rest).length (k + 1) := by
        simp only [List.length_cons]
        omega
      rw [hmin]
      simp

/-- A requester that asks with nobody waiting gives its words for the free places (R130). -/
theorem askPlaces_gives {req : Requester} {holds : List FetchWord → Nat → State → State} (hl : Lists req holds)
    {ws : List FetchWord} (hws : ws ≠ []) (n : Nat) {s : State} (hnone : s.placeWait = []) :
    askPlaces req (holds ws n s) =
      gives req ws (holds (ws.drop (grantedOf ws s)) (n + grantedOf ws s) s) := by
  have hwait : (holds ws n s).placeWait = [] := (hl.waits ..).trans hnone
  have hlisted : ¬ (((holds ws n s).listed req).isEmpty || (holds ws n s).placeWait.contains req) = true := by
    rw [hl.listed, hwait]
    simpa using hws
  have hplaces : (holds ws n s).freeFetchPlaces = 12 - s.ownQueue.countP OwnEntry.isFetch :=
    congrArg (fun q => 12 - List.countP OwnEntry.isFetch q) (hl.queue ws n s)
  have hasked : { holds ws n s with placeWait := [req] } = holds ws n { s with placeWait := [req] } := by
    have hmoved := hl.moved ws n s s.ownQueue [req]
    rw [← hmoved, ← hl.queue ws n s]
  unfold askPlaces
  rw [if_neg hlisted, if_pos (by rw [hwait]; rfl), hplaces, hasked, grantPlaces_lists hl _ ws n _ hws rfl]
  have hgives : gives req ws (holds (ws.drop (grantedOf ws s)) (n + grantedOf ws s) s) =
      holds (ws.drop (grantedOf ws s)) (n + grantedOf ws s)
        { s with
          ownQueue := s.ownQueue ++ (ws.take (grantedOf ws s)).map (OwnEntry.fetch req)
          placeWait := if ws.length ≤ grantedOf ws s then [] else [req] } := by
    refine Eq.trans ?_ (hl.moved ..)
    unfold gives
    have hgranted : grantedOf ws (holds (ws.drop (grantedOf ws s)) (n + grantedOf ws s) s) = grantedOf ws s :=
      congrArg (fun q => min ws.length (12 - List.countP OwnEntry.isFetch q)) (hl.queue ..)
    rw [hgranted, hl.queue]
  rw [hgives]
  have hle : ws.length ≤ 12 - s.ownQueue.countP OwnEntry.isFetch ↔ ws.length ≤ grantedOf ws s := by
    unfold grantedOf
    omega
  have htake : ws.take (12 - s.ownQueue.countP OwnEntry.isFetch) = ws.take (grantedOf ws s) := by
    unfold grantedOf
    rw [min_comm]
    exact List.take_eq_take_min
  have hdrop : ws.drop (12 - s.ownQueue.countP OwnEntry.isFetch) = ws.drop (grantedOf ws s) := by
    unfold grantedOf
    rw [min_comm]
    exact List.drop_eq_drop_min
  rw [htake, hdrop]
  simp only [hle]
  rfl

/-- Nobody with nothing listed, or already on the place-wait list, is granted anything by asking. -/
theorem askPlaces_same {req : Requester} {s : State} (h : s.listed req = [] ∨ req ∈ s.placeWait) :
    askPlaces req s = s := by
  unfold askPlaces
  refine if_pos ?_
  rw [Bool.or_eq_true]
  exact h.imp (fun h => by rw [h]; rfl) fun h => List.contains_iff_mem.mpr h

section
variable {ch : ChannelId} {op : Op} {s : State}

/-- The channel state of an operation once its record is at a stage. -/
abbrev Op.at (op : Op) (st : Stage) : ChState := .busy { op with stage := st }

theorem setStage_eq (hbusy : (s.ch ch).state = .busy op) (st : Stage) :
    s.setStage ch st = s.modCh ch (Channel.inState (op.at st)) :=
  State.setStage_busy s ch st op hbusy

theorem listed_tape {r : TapeRec} (hstage : op.stage = .takingTape r) (s : State) :
    (s.modCh ch (Channel.inState (.busy op))).listed (.operation ch) = r.toFetch := by
  unfold State.listed
  simp only [State.ch_modCh_same, Channel.inState, hstage]

theorem listed_line {r : LineRec} (hstage : op.stage = .takingLine r) (s : State) :
    (s.modCh ch (Channel.inState (.busy op))).listed (.operation ch) = r.toFetch := by
  unfold State.listed
  simp only [State.ch_modCh_same, Channel.inState, hstage]

theorem lists_tape (ch : ChannelId) (op : Op) (r : TapeRec) :
    Lists (.operation ch) fun l n s =>
      s.modCh ch (Channel.inState (op.at (.takingTape { r with toFetch := l, outstanding := n }))) where
  listed l n s := listed_tape (op := { op with stage := .takingTape { r with toFetch := l, outstanding := n } }) rfl s
  given _ _ _ _ := by
    unfold State.giveListed
    simp only [State.ch_modCh_same, Channel.inState]
    rw [List.tail_cons]
    exact setStage_inState ..
  queue _ _ _ := rfl
  waits _ _ _ := rfl
  moved _ _ _ _ _ := by cases ch <;> rfl

theorem lists_line (ch : ChannelId) (op : Op) (r : LineRec) :
    Lists (.operation ch) fun l n s =>
      s.modCh ch (Channel.inState (op.at (.takingLine { r with toFetch := l, outstanding := n }))) where
  listed l n s := listed_line (op := { op with stage := .takingLine { r with toFetch := l, outstanding := n } }) rfl s
  given _ _ _ _ := by
    unfold State.giveListed
    simp only [State.ch_modCh_same, Channel.inState]
    rw [List.tail_cons]
    exact setStage_inState ..
  queue _ _ _ := rfl
  waits _ _ _ := rfl
  moved _ _ _ _ _ := by cases ch <;> rfl

theorem lists_record (r : ApplyRec) :
    Lists .setup fun l n s =>
      { s with setup := { s.setup with apply := some { r with toFetch := l, outstanding := n }, result := .pending } } where
  listed _ _ _ := rfl
  given _ _ _ _ := rfl
  queue _ _ _ := rfl
  waits _ _ _ := rfl
  moved _ _ _ _ _ := rfl

/-! ### A TAKING that goes on (R28, R45) -/

theorem goOnTape_asks {r : TapeRec} (h : r.length = none ∨ r.toFetch ≠ [] ∨ r.outstanding ≠ 0)
    (hbusy : (s.ch ch).state = .busy op) : goOnTape ch r s =
      askPlaces (.operation ch) (s.modCh ch (Channel.inState (op.at (.takingTape r)))) := by
  rw [← setStage_eq hbusy]
  unfold goOnTape
  cases hlength : r.length with
  | none => rfl
  | some n =>
    refine if_neg ?_
    rw [Bool.and_eq_true, List.isEmpty_iff, decide_eq_true_iff]
    rintro ⟨hlist, hout⟩
    obtain h | h | h := h
    · rw [hlength] at h
      cases h
    · exact h hlist
    · exact h hout

theorem goOnLine_asks {r : LineRec} (h : r.length = none ∨ r.toFetch ≠ [] ∨ r.outstanding ≠ 0)
    (hbusy : (s.ch ch).state = .busy op) : goOnLine ch r s =
      askPlaces (.operation ch) (s.modCh ch (Channel.inState (op.at (.takingLine r)))) := by
  rw [← setStage_eq hbusy]
  unfold goOnLine
  refine if_neg ?_
  rw [Bool.and_eq_true, Bool.and_eq_true, List.isEmpty_iff, decide_eq_true_iff]
  rintro ⟨⟨hlength, hlist⟩, hout⟩
  obtain h | h | h := h
  · rw [h] at hlength
    cases hlength
  · exact h hlist
  · exact h hout

/-- The tape's listed words are given as places are free. -/
theorem goOnTape_gives {r : TapeRec} (hws : r.toFetch ≠ []) (hbusy : (s.ch ch).state = .busy op)
    (hnone : s.placeWait = []) : goOnTape ch r s =
      gives (.operation ch) r.toFetch (s.modCh ch (Channel.inState (op.at (.takingTape
        { r with toFetch := r.toFetch.drop (grantedOf r.toFetch s)
                 outstanding := r.outstanding + grantedOf r.toFetch s })))) := by
  rw [goOnTape_asks (.inr (.inl hws)) hbusy]
  exact askPlaces_gives (lists_tape ch op r) hws r.outstanding hnone

/-- The line's listed words are given as places are free. -/
theorem goOnLine_gives {r : LineRec} (hws : r.toFetch ≠ []) (hbusy : (s.ch ch).state = .busy op)
    (hnone : s.placeWait = []) : goOnLine ch r s =
      gives (.operation ch) r.toFetch (s.modCh ch (Channel.inState (op.at (.takingLine
        { r with toFetch := r.toFetch.drop (grantedOf r.toFetch s)
                 outstanding := r.outstanding + grantedOf r.toFetch s })))) := by
  rw [goOnLine_asks (.inr (.inl hws)) hbusy]
  exact askPlaces_gives (lists_line ch op r) hws r.outstanding hnone

/-- The tape's TAKING waits for answers or for places. -/
theorem goOnTape_waits {r : TapeRec} (hbusy : (s.ch ch).state = .busy op)
    (h : (r.toFetch = [] ∧ r.outstanding ≠ 0) ∨ (r.toFetch ≠ [] ∧ Requester.operation ch ∈ s.placeWait)) :
    goOnTape ch r s = s.modCh ch (Channel.inState (op.at (.takingTape r))) := by
  rw [goOnTape_asks (.inr (h.symm.imp And.left And.right)) hbusy]
  exact askPlaces_same (h.imp (fun h => (listed_tape rfl s).trans h.1) And.right)

/-- The line's TAKING waits for answers or for places. -/
theorem goOnLine_waits {r : LineRec} (hbusy : (s.ch ch).state = .busy op)
    (h : (r.toFetch = [] ∧ r.outstanding ≠ 0) ∨ (r.toFetch ≠ [] ∧ Requester.operation ch ∈ s.placeWait)) :
    goOnLine ch r s = s.modCh ch (Channel.inState (op.at (.takingLine r))) := by
  rw [goOnLine_asks (.inr (h.symm.imp And.left And.right)) hbusy]
  exact askPlaces_same (h.imp (fun h => (listed_line rfl s).trans h.1) And.right)

end

/-! ### What a record lacks (R27, R45, R138) -/

theorem incomplete_eq (t : TakenWord) : (!t.complete) = (t.hi.isNone || t.lo.isNone) := by
  unfold TakenWord.complete
  rw [Bool.not_and, Option.not_isSome, Option.not_isSome]

theorem maskList_eq (s : State) (ch : ChannelId) (n : Nat) (words : List TakenWord) :
    s.maskList ch n words = lackingMasks words ch n s := by
  unfold State.maskList lackingMasks
  simp only [incomplete_eq]
  rfl

theorem recordList_eq (s : State) (r : ApplyRec) (is : List Nat) :
    s.recordList r is = lackingRecord r.words is s := by
  unfold State.recordList lackingRecord
  simp only [incomplete_eq]
  rfl

theorem value_lacking {t : TakenWord} (h : t.hi = none ∨ t.lo = none) : t.value = none := by
  unfold TakenWord.value
  obtain h | h := h
  · rw [h]
  · rw [h]
    cases t.hi <;> rfl

theorem value_whole {t : TakenWord} {hi lo : Byte} (hhi : t.hi = some hi) (hlo : t.lo = some lo) :
    t.value = some (hi ++ lo) := by
  unfold TakenWord.value
  rw [hhi, hlo]
  rfl

theorem grantedOf_single {f : FetchWord} {s : State} (h : s.ownQueue.countP OwnEntry.isFetch < 12) :
    grantedOf [f] s = 1 := by
  unfold grantedOf
  rw [List.length_singleton]
  omega

theorem gives_single {req : Requester} {f : FetchWord} {s : State} (h : s.ownQueue.countP OwnEntry.isFetch < 12)
    (hnone : s.placeWait = []) : gives req [f] s = { s with ownQueue := s.ownQueue ++ [.fetch req f] } := by
  unfold gives
  rw [grantedOf_single h, ← hnone]
  rfl

section
variable {ch : ChannelId} {op : Op} {s : State}

/-! ### The taking of a tape and of a line begins (R24, R43, R44) -/

theorem beginTape_lacking (hbusy : (s.ch ch).state = .busy op) (hnone : s.placeWait = [])
    (hfree : s.ownQueue.countP OwnEntry.isFetch < 12)
    (hlacks : (s.copyWord (s.wordAddr (.tape ch) 0)).hi = none ∨ (s.copyWord (s.wordAddr (.tape ch) 0)).lo = none) :
    beginTape ch s = { s.modCh ch (Channel.inState (op.at (.takingTape
        { s.newTape ch with toFetch := [], outstanding := 1 }))) with
      ownQueue := s.ownQueue ++ [.fetch (.operation ch) ⟨s.wordAddr (.tape ch) 0, .tape 0⟩] } := by
  unfold beginTape
  dsimp only
  rw [newTape_word s ch (by omega), value_lacking hlacks]
  dsimp only
  rw [goOnTape_gives (List.cons_ne_nil _ _) hbusy hnone]
  have hgranted : grantedOf (s.newTape ch).toFetch s = 1 := grantedOf_single hfree
  rw [hgranted]
  exact gives_single hfree hnone

theorem beginTape_lists {len : Word} (hbusy : (s.ch ch).state = .busy op) (hnone : s.placeWait = [])
    (hlen : Holds s.shadow (s.wordAddr (.tape ch) 0) len) (hshort : 12 ≤ len.toNat) (hlong : len.toNat ≤ 192)
    (hws : lackingMasks (s.newTape ch).words ch len.toNat s ≠ []) :
    beginTape ch s =
      gives (.operation ch) (lackingMasks (s.newTape ch).words ch len.toNat s)
        (s.modCh ch (Channel.inState (op.at (.takingTape
          { length := some len.toNat
            toFetch := (lackingMasks (s.newTape ch).words ch len.toNat s).drop
              (grantedOf (lackingMasks (s.newTape ch).words ch len.toNat s) s)
            outstanding := grantedOf (lackingMasks (s.newTape ch).words ch len.toNat s) s
            words := (s.newTape ch).words })))) := by
  have hok : tapeLengthOk len.toNat = true := by
    simp [tapeLengthOk, hshort, hlong]
  unfold beginTape
  dsimp only
  rw [newTape_word s ch (by omega), copyWord_holds hlen, value_of_bytes]
  dsimp only
  unfold fixTape
  rw [if_pos hok, maskList_eq, goOnTape_gives hws hbusy hnone]
  dsimp only [State.newTape]
  rw [Nat.zero_add]

/-- The record of a line whose length is not known yet (R24). -/
def unknownLine (s : State) (ch : ChannelId) (vp : Bool) : LineRec :=
  { length := none, lengthDamaged := false, lengthWord := s.copyWord (s.wordAddr (.control ch) 2)
    words := copiedPage ch vp s
    toFetch := [⟨s.wordAddr (.control ch) 2, .lineLength⟩], outstanding := 0 }

theorem newLine_lacking {vp : Bool} (h : (s.copyWord (s.wordAddr (.control ch) 2)).value = none) :
    s.newLine ch vp = unknownLine s ch vp := by
  unfold State.newLine
  dsimp only
  rw [h]
  rfl

theorem newLine_known {vp : Bool} {v : Word} (h : Holds s.shadow (s.wordAddr (.control ch) 2) v) :
    s.newLine ch vp = { unknownLine s ch vp with
      length := some (min v.toNat 160)
      toFetch := lackingPages (copiedPage ch vp s) ch vp (min v.toNat 160) s } := by
  unfold State.newLine
  dsimp only
  rw [copyWord_holds h, value_of_bytes]
  dsimp only
  unfold State.fixLength unknownLine
  rw [copyWord_holds h]
  rfl

theorem beginLine_lacking {vp : Bool} (hbusy : (s.ch ch).state = .busy op) (hnone : s.placeWait = [])
    (hfree : s.ownQueue.countP OwnEntry.isFetch < 12)
    (hlacks : (s.copyWord (s.wordAddr (.control ch) 2)).hi = none ∨
      (s.copyWord (s.wordAddr (.control ch) 2)).lo = none) :
    beginLine ch vp s = { s.modCh ch (Channel.inState (op.at (.takingLine
        { unknownLine s ch vp with toFetch := [], outstanding := 1 }))) with
      ownQueue := s.ownQueue ++ [.fetch (.operation ch) ⟨s.wordAddr (.control ch) 2, .lineLength⟩] } := by
  unfold beginLine
  rw [newLine_lacking (value_lacking hlacks), goOnLine_gives (List.cons_ne_nil _ _) hbusy hnone]
  have hgranted : grantedOf (unknownLine s ch vp).toFetch s = 1 := grantedOf_single hfree
  rw [hgranted]
  exact gives_single hfree hnone

theorem beginLine_lists {vp : Bool} {v : Word} (hbusy : (s.ch ch).state = .busy op) (hnone : s.placeWait = [])
    (hlen : Holds s.shadow (s.wordAddr (.control ch) 2) v)
    (hws : lackingPages (copiedPage ch vp s) ch vp (min v.toNat 160) s ≠ []) :
    beginLine ch vp s =
      gives (.operation ch) (lackingPages (copiedPage ch vp s) ch vp (min v.toNat 160) s)
        (s.modCh ch (Channel.inState (op.at (.takingLine
          { unknownLine s ch vp with
            length := some (min v.toNat 160)
            toFetch := (lackingPages (copiedPage ch vp s) ch vp (min v.toNat 160) s).drop
              (grantedOf (lackingPages (copiedPage ch vp s) ch vp (min v.toNat 160) s) s)
            outstanding := grantedOf (lackingPages (copiedPage ch vp s) ch vp (min v.toNat 160) s) s })))) := by
  unfold beginLine
  rw [newLine_known hlen, goOnLine_gives hws hbusy hnone]
  dsimp only [unknownLine]
  rw [Nat.zero_add]

end

end Sys2Proof.Machine

namespace Sys2Proof
open Sys2Proof.Machine Sys2Proof.Claims

/-- Settles O53: the taken record lacks its length word, or lists what it lacks once the length is known. -/
theorem fetchesBegin : Obligations.FetchesBegin := by
  intro w ans ch s h h11 hnone hfree
  generalize hv : newCommand w (s.ch ch) = v at *
  intro m lacks word
  have hbusy : ∀ op : Op, (((begun w ans ch s).modCh ch (Channel.inState (.busy op))).ch ch).state = .busy op :=
    fun op => by rw [begun_inState_ch]; rfl
  have htape : v.getLsbD 12 = true → exec (.loadTape w ans) s = .next (beginTape ch ((begun w ans ch s).modCh ch
      (Channel.inState (.busy ⟨.loadTape, false, 0, v.getLsbD 13, .moving none, false⟩)))) := fun h12 =>
    congrArg Host.Outcome.next (go_takes_loadTape h hv h11 h12 ans)
  have hline : v.getLsbD 12 = false → v.getLsbD 7 = false → (s.ch ch).paper.isSome = true →
      (v.getLsbD 6 = true → 1 ≤ v.toNat % 16 ∧ v.toNat % 16 ≤ 12) →
      presentWrite w ans s = beginLine ch (v.getLsbD 14) ((begun w ans ch s).modCh ch
        (Channel.inState (.busy (goOp v)))) := fun h12 h7 hpaper hcount => by
    rw [go_takes_move h hv h11 h12 hpaper hcount]
    exact if_pos (isPrint_opKindOf h7)
  have hkind : ∀ b, v.getLsbD 7 = false → v.getLsbD 6 = b →
      opKindOf v = (if b then .printSkip else .printSpace) ∧
        moveCount v = if b then v.toNat % 16 else v.toNat % 4 := fun b h7 h6 => by
    subst h6
    rw [opKindOf_eq, h7]
    cases h6 : v.getLsbD 6
    · exact ⟨rfl, moveCount_space h6⟩
    · exact ⟨rfl, moveCount_skip h6⟩
  refine ⟨fun h12 hlacks => ?_, fun h12 h7 h6 hpaper hlacks => ?_,
    fun len h12 hlen hshort hlong hws => ?_, fun len h12 h7 hpaper hlen hws => ?_⟩
  · rw [htape h12, beginTape_lacking (hbusy _) hnone hfree hlacks, State.modCh_modCh]
    rfl
  · change Host.Outcome.next (presentWrite w ans s) = _
    obtain ⟨hop, hcount⟩ := hkind false h7 h6
    rw [hline h12 h7 hpaper fun h => absurd (h6.symm.trans h) nofun, beginLine_lacking (hbusy _) hnone hfree hlacks,
      State.modCh_modCh, goOp, hop, hcount]
    rfl
  · rw [htape h12, beginTape_lists (hbusy _) hnone hlen hshort hlong hws, State.modCh_modCh]
    rfl
  · have hlists := fun op => beginLine_lists (vp := v.getLsbD 14) (hbusy op) hnone hlen hws
    refine ⟨fun h6 => ?_, fun h6 hlow hhigh => ?_⟩
    · change Host.Outcome.next (presentWrite w ans s) = _
      obtain ⟨hop, hcount⟩ := hkind false h7 h6
      rw [hline h12 h7 hpaper fun h => absurd (h6.symm.trans h) nofun, hlists, State.modCh_modCh, goOp, hop, hcount]
      rfl
    · change Host.Outcome.next (presentWrite w ans s) = _
      obtain ⟨hop, hcount⟩ := hkind true h7 h6
      rw [hline h12 h7 hpaper fun _ => ⟨hlow, hhigh⟩, hlists, State.modCh_modCh, goOp, hop, hcount]
      rfl

end Sys2Proof
end

section
/-! PROOF. The end of own cycles: the shadow, the record that asked, and the end of TAKING (R26 to R31, R44 to
R47, R126, R131). -/

namespace Sys2Proof.Machine
open Sys2Proof.Claims

/-! ### The answer and its bytes (R126) -/

theorem answered_eq (ans : ReadAnswer) : answered ans = ans.taken := by
  have hbyte : ∀ x : BusByte, (if x.par = oddParityBit x.val then some x.val else none) = x.taken := fun x => by
    simp [BusByte.taken, BusByte.good]
  cases ans with
  | data m => exact Prod.ext (hbyte m.hi) (hbyte m.lo)
  | noResponse => rfl

theorem filled_eq (t : TakenWord) (needHi needLo : Bool) (ans : ReadAnswer) :
    filled t needHi needLo ans = t.fill needHi needLo ans.taken.1 ans.taken.2 := by
  unfold filled
  rw [answered_eq]
  rfl

theorem newlyDamaged_eq (t : TakenWord) (needHi needLo : Bool) (ans : ReadAnswer) :
    newlyDamaged t needHi needLo ans.taken.1 ans.taken.2 = newDamage t needHi needLo ans := by
  have hone : ∀ b : Bool, (if b = true then 1 else 0) = b.toNat := fun b => by cases b <;> rfl
  unfold newlyDamaged newDamage
  rw [answered_eq, hone, hone]

/-- The shadow once the word at an address has taken the good bytes of an answer. -/
def fetchedShadow (a : Addr) (ans : ReadAnswer) (s : State) : Memory :=
  s.shadow.putWord a ans.taken.1 ans.taken.2

theorem Memory.read_putWord (m : Memory) (a : Addr) (hi lo : Option Byte) (b : Nat) :
    (m.putWord a hi lo).read b = if b = 2 * a.toNat then hi else if b = 2 * a.toNat + 1 then lo else m.read b := by
  have hkeys : hiKey a = 2 * a.toNat ∧ loKey a = 2 * a.toNat + 1 := ⟨rfl, rfl⟩
  rw [Memory.putWord, Memory.read_put, Memory.read_put, hkeys.1, hkeys.2]
  by_cases hhi : b = 2 * a.toNat
  · rw [if_pos hhi, if_neg (by omega), if_pos hhi.symm]
  · rw [if_neg hhi, if_neg (Ne.symm hhi)]
    by_cases hlo : b = 2 * a.toNat + 1
    · rw [if_pos hlo, if_pos hlo.symm]
    · rw [if_neg hlo, if_neg (Ne.symm hlo)]

theorem fetchedShadow_spec (a : Addr) (ans : ReadAnswer) (s : State) :
    FetchedShadow a ans s (fetchedShadow a ans s) := fun b => by
  rw [answered_eq]
  exact Memory.read_putWord ..

/-- The answer of a FETCH of a window's word is delivered with the shadow updated. -/
theorem fetchAnswer_delivers {req : Requester} {f : FetchWord} {s : State}
    (hcycle : s.ownCycle = some (.fetch req f)) (hwindow : (s.findWindow f.addr).isSome = true) (ans : ReadAnswer) :
    exec (.fetchAnswer ans) s = .next (deliver req f.dest ans.taken.1 ans.taken.2
      (fetchEnded s (fetchedShadow f.addr ans s))) := by
  have hended : ({ s with ownCycle := none } : State).shadowOwn f.addr ans.taken.1 ans.taken.2 =
      fetchEnded s (fetchedShadow f.addr ans s) := if_pos hwindow
  change Host.Outcome.next (endFetch ans s) = _
  unfold endFetch
  rw [hcycle]
  dsimp only
  rw [hended]

@[simp] theorem fetchEnded_ch (s : State) (m : Memory) (i : ChannelId) : (fetchEnded s m).ch i = s.ch i := by
  cases i <;> rfl

section
variable {ch : ChannelId} {op : Op} {s : State} {dest : Dest} {f : FetchWord} {hi lo : Option Byte}

theorem deliver_line {r : LineRec} (hbusy : (s.ch ch).state = .busy op) (hstage : op.stage = .takingLine r) :
    deliver (.operation ch) dest hi lo s = deliverLine ch op.vp r dest hi lo s := by
  unfold deliver
  dsimp only
  rw [hbusy]
  dsimp only
  rw [hstage]

theorem deliver_tape {r : TapeRec} (hbusy : (s.ch ch).state = .busy op) (hstage : op.stage = .takingTape r) :
    deliver (.operation ch) dest hi lo s = deliverTape ch r dest hi lo s := by
  unfold deliver
  dsimp only
  rw [hbusy]
  dsimp only
  rw [hstage]

theorem fetching_line {r : LineRec} (h : Fetching ch f dest op s) (hstage : op.stage = .takingLine r)
    (ans : ReadAnswer) : exec (.fetchAnswer ans) s = .next (deliverLine ch op.vp r dest ans.taken.1 ans.taken.2
      (fetchEnded s (fetchedShadow f.addr ans s))) := by
  rw [fetchAnswer_delivers h.cycle h.window, h.dest, deliver_line (by rw [fetchEnded_ch]; exact h.busy) hstage]

theorem fetching_tape {r : TapeRec} (h : Fetching ch f dest op s) (hstage : op.stage = .takingTape r)
    (ans : ReadAnswer) : exec (.fetchAnswer ans) s = .next (deliverTape ch r dest ans.taken.1 ans.taken.2
      (fetchEnded s (fetchedShadow f.addr ans s))) := by
  rw [fetchAnswer_delivers h.cycle h.window, h.dest, deliver_tape (by rw [fetchEnded_ch]; exact h.busy) hstage]

/-! ### Lines (R26, R29, R31) -/

/-- The line record once page word j has been answered, for a line of n positions. -/
def LineRec.pageTaken (r : LineRec) (n j : Nat) (ans : ReadAnswer) : LineRec :=
  { r with words := r.words.set j (filledPage r n j ans), outstanding := r.outstanding - 1 }

theorem deliverLine_page {r : LineRec} {n : Nat} (hlength : r.length = some n) (vp : Bool) (j : Nat)
    (ans : ReadAnswer) : deliverLine ch vp r (.page j) ans.taken.1 ans.taken.2 s =
      goOnLine ch (r.pageTaken n j ans) (s.modCh ch fun c =>
        { c with damaged := saturated c.damaged (pageDamage r n j ans) }) := by
  obtain ⟨len⟩ := r
  obtain rfl : len = some n := hlength
  unfold deliverLine
  dsimp only [Option.getD_some]
  rw [newlyDamaged_eq, ← filled_eq]
  rfl

theorem deliverLine_length {r : LineRec} {hi lo : Byte} (vp : Bool) (ans : ReadAnswer)
    (hhi : (filled r.lengthWord true true ans).hi = some hi) (hlo : (filled r.lengthWord true true ans).lo = some lo) :
    deliverLine ch vp r .lineLength ans.taken.1 ans.taken.2 s =
      goOnLine ch { r with
        lengthWord := filled r.lengthWord true true ans
        outstanding := r.outstanding - 1
        length := some (min (hi ++ lo : Word).toNat 160)
        toFetch := lackingPages r.words ch vp (min (hi ++ lo : Word).toNat 160) s } s := by
  unfold deliverLine
  dsimp only
  rw [← filled_eq, value_whole hhi hlo]
  rfl

theorem deliverLine_damaged {r : LineRec} (vp : Bool) (ans : ReadAnswer)
    (h : (filled r.lengthWord true true ans).hi = none ∨ (filled r.lengthWord true true ans).lo = none) :
    deliverLine ch vp r .lineLength ans.taken.1 ans.taken.2 s =
      goOnLine ch { r with
          lengthWord := filled r.lengthWord true true ans
          outstanding := r.outstanding - 1
          length := some 0
          lengthDamaged := true
          toFetch := [] }
        (s.modCh ch fun c =>
          { c with damaged := saturated c.damaged 1, unprintable := saturated c.unprintable 1 }) := by
  unfold deliverLine
  dsimp only
  rw [← filled_eq, value_lacking h]
  rfl

theorem reads_taken {r : LineRec} {words : List TakenWord} (hwords : r.words = words) (table : List TransEntry)
    (n : Nat) : Reads r table (takenEntry table words) n := by
  intro i _
  have hcode : r.code (i + 1) =
      if i % 2 = 0 then (if (words.getD (i / 2) lackingWord).hiDamaged then none else (words.getD (i / 2) lackingWord).hi)
      else (if (words.getD (i / 2) lackingWord).loDamaged then none else (words.getD (i / 2) lackingWord).lo) := by
    unfold LineRec.code
    rw [hwords, Nat.add_sub_cancel]
    by_cases heven : i % 2 = 0
    · exact (if_pos (by omega)).trans (if_pos heven).symm
    · exact (if_neg (by omega)).trans (if_neg heven).symm
  unfold takenEntry
  dsimp only
  rw [← hcode]
  cases r.code (i + 1) with
  | none => rfl
  | some c => exact translate_some table c

/-- The answer that ends TAKING hands on a line that is allowed, with room and cells. -/
theorem goOnLine_placed {r : LineRec} {n : Nat} {p : Paper} {entry : Nat → TransEntry} (hlist : r.toFetch = [])
    (hout : r.outstanding = 0) (hwhole : LineWhole ch op r entry n s) (hok : Allowed r entry n (s.ch ch))
    (hends : LineEnds ch op p entry n s) : goOnLine ch r s = lineEnded ch op p entry n s := by
  obtain ⟨⟨hkind, hfew⟩, ⟨hpaper, hp⟩, hcells, hroom, hstop, heject⟩ := hends
  have hfits : LineFits ch op r entry n p s :=
    { hwhole with
      allowed := hok, carriage := hpaper, cells := hcells, print := by rw [hkind]; rfl, noStop := hstop
      noEject := heject }
  have hsteps : moveSteps op p = some op.count := by
    unfold moveSteps
    rw [hkind]
  have hlong := hp.twelve_le
  rw [goOnLine_ends hwhole.length hlist hout, hfits.endLine_printed hp.pos_lt hsteps (by omega) hroom]
  rfl

/-- The answer that ends TAKING refuses the line under CHECK. -/
theorem goOnLine_refused {r : LineRec} {n : Nat} {entry : Nat → TransEntry} (hlist : r.toFetch = [])
    (hout : r.outstanding = 0) (hwhole : LineWhole ch op r entry n s) (hcheck : (s.ch ch).policy = .check)
    (hbad : 0 < entryBad entry n ∨ r.lengthDamaged = true) (hplaced : op.linePlaced = false) :
    goOnLine ch r s = lineRefused ch op (entryBad entry n) s := by
  rw [goOnLine_ends hwhole.length hlist hout, hwhole.endLine_refused hcheck hbad hplaced]

/-- What the end of a line asks of the state does not see the counters of the channel nor the shadow. -/
theorem lineEnds_congr {p : Paper} {entry : Nat → TransEntry} {n : Nat} {t : State} (h : LineEnds ch op p entry n s)
    {d u : Nat} (hch : t.ch ch = { s.ch ch with damaged := d, unprintable := u }) (hfree : t.freeCells = s.freeCells)
    (hwait : t.cellWait = s.cellWait) (hqueue : t.queue = s.queue) : LineEnds ch op p entry n t := by
  obtain ⟨hkind, hcarriage, hcells, hroom, hpanel⟩ := h
  refine ⟨hkind, by rw [hch]; exact hcarriage, ?_, roomFor_congr hroom (by rw [hch]) (by rw [hch]) hqueue hwait,
    by rw [hch]; exact hpanel⟩
  rw [hch, hfree, hwait]
  exact hcells

/-! ### Tapes (R44 to R46) -/

/-- The tape record once word i has been answered. -/
def TapeRec.wordTaken (r : TapeRec) (i : Nat) (ans : ReadAnswer) : TapeRec :=
  { r with words := r.words.set i (filled (r.words.getD i lackingWord) true true ans), outstanding := r.outstanding - 1 }

theorem deliverTape_length {r : TapeRec} {hi lo : Byte} (ans : ReadAnswer)
    (hhi : (filled (r.words.getD 0 lackingWord) true true ans).hi = some hi)
    (hlo : (filled (r.words.getD 0 lackingWord) true true ans).lo = some lo) :
    deliverTape ch r (.tape 0) ans.taken.1 ans.taken.2 s = fixTape ch (hi ++ lo) (r.wordTaken 0 ans) s := by
  have hvalue : ((r.words.getD 0 TakenWord.absent).fill true true ans.taken.1 ans.taken.2).value = some (hi ++ lo) :=
    (congrArg TakenWord.value (filled_eq ..)).symm.trans (value_whole hhi hlo)
  unfold deliverTape
  dsimp only
  rw [if_pos rfl, hvalue]
  unfold TapeRec.wordTaken
  rw [filled_eq]
  rfl

theorem deliverTape_damaged {r : TapeRec} (ans : ReadAnswer)
    (h : (filled (r.words.getD 0 lackingWord) true true ans).hi = none ∨
      (filled (r.words.getD 0 lackingWord) true true ans).lo = none) :
    deliverTape ch r (.tape 0) ans.taken.1 ans.taken.2 s = endOp ch .tapeRefused s := by
  have hvalue : ((r.words.getD 0 TakenWord.absent).fill true true ans.taken.1 ans.taken.2).value = none :=
    (congrArg TakenWord.value (filled_eq ..)).symm.trans (value_lacking h)
  unfold deliverTape
  dsimp only
  rw [if_pos rfl, hvalue]

theorem deliverTape_mask (r : TapeRec) (i : Nat) (ans : ReadAnswer) :
    deliverTape ch r (.tape (i + 1)) ans.taken.1 ans.taken.2 s = goOnTape ch (r.wordTaken (i + 1) ans) s := by
  unfold deliverTape TapeRec.wordTaken
  dsimp only
  rw [if_neg (Nat.succ_ne_zero i), filled_eq]
  rfl

theorem fixTape_refused {v : Word} {r : TapeRec} (h : v.toNat < 12 ∨ 192 < v.toNat) :
    fixTape ch v r s = endOp ch .tapeRefused s := by
  unfold fixTape tapeLengthOk
  refine if_neg ?_
  rw [Bool.and_eq_true, decide_eq_true_iff, decide_eq_true_iff]
  omega

theorem fixTape_lists {v : Word} {r : TapeRec} (hbusy : (s.ch ch).state = .busy op) (hnone : s.placeWait = [])
    (hshort : 12 ≤ v.toNat) (hlong : v.toNat ≤ 192) (hws : lackingMasks r.words ch v.toNat s ≠ []) :
    fixTape ch v r s = gives (.operation ch) (lackingMasks r.words ch v.toNat s)
      (s.modCh ch (Channel.inState (op.at (.takingTape
        { length := some v.toNat, words := r.words
          toFetch := (lackingMasks r.words ch v.toNat s).drop (grantedOf (lackingMasks r.words ch v.toNat s) s)
          outstanding := r.outstanding + grantedOf (lackingMasks r.words ch v.toNat s) s })))) := by
  have hok : tapeLengthOk v.toNat = true := by
    simp [tapeLengthOk, hshort, hlong]
  unfold fixTape
  rw [if_pos hok, maskList_eq, goOnTape_gives hws hbusy hnone]

/-- The answer that ends a tape's TAKING over nothing to close installs it. -/
theorem goOnTape_installs {r : TapeRec} {n : Nat} (hlength : r.length = some n) (hlist : r.toFetch = [])
    (hout : r.outstanding = 0) (hbusy : (s.ch ch).state = .busy op) (hkind : op.kind = .loadTape)
    (hunused : ∀ p ∈ (s.ch ch).paper, p.pos = 0 ∧ p.form.cellCount = 0) (hstop : (s.ch ch).pendStop = false)
    (heject : (s.ch ch).pendEject = false) :
    goOnTape ch r s = s.modCh ch fun c => finished op.ie (c.loaded (r.tape n)) := by
  have hch : (s.modCh ch (Channel.inState (op.at (.moving (some (r.tape n)))))).ch ch =
      Channel.inState (op.at (.moving (some (r.tape n)))) (s.ch ch) := State.ch_modCh_same ..
  have hloading : Loading ch { op with stage := .moving (some (r.tape n)) } (r.tape n)
      (s.modCh ch (Channel.inState (op.at (.moving (some (r.tape n)))))) := by
    constructor <;> try rw [hch]
    exacts [rfl, rfl, hkind, hstop, heject]
  rw [goOnTape_ends hlength hlist hout, setStage_eq hbusy, hloading.moveOn_unused (by rw [hch]; exact hunused),
    State.modCh_modCh]
  rfl

end

theorem exec_tallyWrite {ch : ChannelId} {a : Addr} {v : Word} {s : State} (h : s.ownCycle = some (.tally ch a v)) :
    exec (.tallyWrite .accepted) s =
        .next (({ s with ownCycle := none } : State).shadowOwn a (some (hiByte v)) (some (loByte v))) ∧
      exec (.tallyWrite .noResponse) s = .next (({ s with ownCycle := none } : State).shadowOwn a none none) := by
  constructor
  all_goals
    change Host.Outcome.next (endTallyWrite _ s) = _
    unfold endTallyWrite
    rw [h]

end Sys2Proof.Machine

namespace Sys2Proof
open Sys2Proof.Machine Sys2Proof.Claims

/-- Settles O54: the answer goes to the shadow and to the record that asked, by what the word was fetched for. -/
theorem ownCycleEnds : Obligations.OwnCycleEnds := by
  refine ⟨fun ch f ans s hcycle => ⟨fun hwindow => ?_, fun hwindow => ?_⟩,
    fun ch f op r j n ans s h hstage hlength => ⟨_, fetchedShadow_spec _ _ _, ?_⟩,
    fun ch f op r ans s h hstage => ⟨_, fetchedShadow_spec _ _ _, ?_⟩,
    fun ch f op r ans s h hkind hstage => ⟨_, fetchedShadow_spec _ _ _, ?_⟩,
    fun ch f op r i n ans s h hkind hstage hlength => ⟨_, fetchedShadow_spec _ _ _, ?_⟩,
    fun ch a v s hcycle => ⟨fun hwindow => ?_, fun hwindow ans => ?_⟩⟩
  · exact ⟨_, fetchedShadow_spec _ _ _, fetchAnswer_delivers hcycle hwindow ans⟩
  · change Host.Outcome.next (endFetch ans s) = _
    unfold endFetch
    rw [hcycle]
    exact congrArg Host.Outcome.next (if_neg (show ¬ (s.findWindow f.addr).isSome = true by rw [hwindow]; nofun))
  · intro words t
    have hch : t.ch ch = { s.ch ch with damaged := saturated (s.ch ch).damaged (pageDamage r n j ans) } :=
      (State.ch_modCh_same ..).trans (by rw [fetchEnded_ch])
    have hbusy : (t.ch ch).state = .busy op := by
      rw [hch]
      exact h.busy
    have hwhole : LineWhole ch op (r.pageTaken n j ans) (takenEntry s.setup.translation words) n t :=
      ⟨hlength, reads_taken rfl _ n, hbusy⟩
    rw [fetching_line h hstage, deliverLine_page hlength]
    refine ⟨fun hwaits => ?_, fun hlist hout => ⟨fun hok p hends => ?_, fun hcheck hplaced hbad => ?_⟩⟩
    · refine congrArg Host.Outcome.next (goOnLine_waits hbusy (hwaits.imp (fun ⟨hlist, hout⟩ => ⟨hlist, ?_⟩) id))
      change r.outstanding - 1 ≠ 0
      omega
    · refine congrArg Host.Outcome.next (goOnLine_placed hlist (by change r.outstanding - 1 = 0; omega) hwhole ?_
        (lineEnds_congr hends (d := saturated (s.ch ch).damaged (pageDamage r n j ans)) (u := (s.ch ch).unprintable) hch
          rfl rfl rfl))
      rw [hch]
      exact hok
    · refine congrArg Host.Outcome.next (goOnLine_refused hlist (by change r.outstanding - 1 = 0; omega) hwhole ?_ hbad
        hplaced)
      rw [hch]
      exact hcheck
  · intro t
    rw [fetching_line h hstage]
    refine ⟨fun hi lo hhi hlo hws hnone hout => ?_, fun hlacks hout => ?_⟩
    · rw [deliverLine_length op.vp ans hhi hlo]
      refine congrArg Host.Outcome.next ((goOnLine_gives (op := op) (s := fetchEnded s (fetchedShadow f.addr ans s)) hws
        (by rw [fetchEnded_ch]; exact h.busy) hnone).trans ?_)
      dsimp only
      rw [hout, Nat.zero_add]
      rfl
    · intro u
      have hch : u.ch ch = { s.ch ch with
          damaged := saturated (s.ch ch).damaged 1, unprintable := saturated (s.ch ch).unprintable 1 } :=
        (State.ch_modCh_same ..).trans (by rw [fetchEnded_ch])
      have hwhole : ∀ r' : LineRec, r'.length = some 0 → LineWhole ch op r' (fun _ => .blank) 0 u := fun r' hr =>
        ⟨hr, fun i hi => absurd hi (Nat.not_lt_zero i), by rw [hch]; exact h.busy⟩
      rw [deliverLine_damaged op.vp ans hlacks]
      refine ⟨fun hpolicy p hends => congrArg Host.Outcome.next (goOnLine_placed rfl ?_ (hwhole _ rfl) (.inl ?_)
          (lineEnds_congr hends (d := saturated (s.ch ch).damaged 1) (u := saturated (s.ch ch).unprintable 1) hch rfl rfl rfl)),
        fun hcheck hplaced => congrArg Host.Outcome.next (goOnLine_refused rfl ?_ (hwhole _ rfl) ?_ (.inr rfl) hplaced)⟩
      · change r.outstanding - 1 = 0
        omega
      · rw [hch]
        exact hpolicy
      · change r.outstanding - 1 = 0
        omega
      · rw [hch]
        exact hcheck
  · intro t
    have hbusy : ∀ m, ((fetchEnded s m).ch ch).state = .busy op := fun m => by
      rw [fetchEnded_ch]
      exact h.busy
    rw [fetching_tape h hstage]
    refine ⟨fun hbad hstop heject => congrArg Host.Outcome.next (Eq.trans ?_ (endOp_tapeRefused (hbusy _) hkind
      (by rw [fetchEnded_ch]; exact hstop) (by rw [fetchEnded_ch]; exact heject))),
      fun hi lo hhi hlo hshort hlong => ?_⟩
    · obtain hhi | hlo | ⟨hi, lo, hhi, hlo, hlen⟩ := hbad
      · exact deliverTape_damaged ans (.inl hhi)
      · exact deliverTape_damaged ans (.inr hlo)
      · exact (deliverTape_length ans hhi hlo).trans (fixTape_refused hlen)
    · intro words ws hws hnone hout
      rw [deliverTape_length ans hhi hlo, fixTape_lists (hbusy _) hnone hshort hlong hws]
      dsimp only [TapeRec.wordTaken]
      rw [hout, Nat.zero_add]
      rfl
  · intro words
    have hbusy : ∀ m, ((fetchEnded s m).ch ch).state = .busy op := fun m => by
      rw [fetchEnded_ch]
      exact h.busy
    rw [fetching_tape h hstage, deliverTape_mask]
    refine ⟨fun hwaits => ?_, fun hlist hout hunused hstop heject => ?_⟩
    · refine congrArg Host.Outcome.next (goOnTape_waits (hbusy _) (hwaits.imp (fun ⟨hlist, hout⟩ => ⟨hlist, ?_⟩) id))
      change r.outstanding - 1 ≠ 0
      omega
    · have hmasks : ((r.wordTaken (i + 1) ans).tape n).masks.length = n := by
        simp [TapeRec.tape]
      refine congrArg Host.Outcome.next ((goOnTape_installs (r := r.wordTaken (i + 1) ans) (n := n) hlength hlist ?_ (hbusy _) hkind
        (by rw [fetchEnded_ch]; exact hunused) (by rw [fetchEnded_ch]; exact hstop)
        (by rw [fetchEnded_ch]; exact heject)).trans (modCh_congr ?_))
      · change r.outstanding - 1 = 0
        omega
      · unfold Channel.loaded
        rw [hmasks]
        refine congrArg (fun masks => finished op.ie { (fetchEnded s (fetchedShadow f.addr ans s)).ch ch with
          overflow := false, ch9 := false, paper := some ⟨⟨masks⟩, 0, ⟨n, 0, []⟩⟩ }) ?_
        refine List.map_congr_left fun l _ => ?_
        change maskOf (words.getD (l + 1) lackingWord) = _
        unfold maskOf TakenWord.value
        cases (words.getD (l + 1) lackingWord).hi <;> cases (words.getD (l + 1) lackingWord).lo <;> rfl
  · obtain ⟨haccepted, hsilent⟩ := exec_tallyWrite hcycle
    refine ⟨⟨s.shadow.putWord a (some (hiByte v)) (some (loByte v)), ?_, Memory.read_putWord _ _ _ _⟩,
      ⟨s.shadow.putWord a none none, ?_, fun b => ?_⟩⟩
    · rw [haccepted]
      exact congrArg Host.Outcome.next (if_pos hwindow)
    · rw [hsilent]
      exact congrArg Host.Outcome.next (if_pos hwindow)
    · rw [Memory.read_putWord]
      by_cases hhi : b = 2 * a.toNat
      · rw [if_pos hhi, if_pos (.inl hhi)]
      · by_cases hlo : b = 2 * a.toNat + 1
        · rw [if_neg hhi, if_pos hlo, if_pos (.inr hlo)]
        · rw [if_neg hhi, if_neg hlo, if_neg (by rintro (h | h); exacts [hhi h, hlo h])]
  · have hnone : ¬ (s.findWindow a).isSome = true := by
      rw [hwindow]
      nofun
    obtain ⟨haccepted, hsilent⟩ := exec_tallyWrite hcycle
    cases ans
    · rw [haccepted]
      exact congrArg Host.Outcome.next (if_neg hnone)
    · rw [hsilent]
      exact congrArg Host.Outcome.next (if_neg hnone)

end Sys2Proof
end

section
/-! PROOF. The setup unit's fetches: PENDING, the answers of a record, and the record's end (R138, R139, R142). -/

namespace Sys2Proof.Machine
open Sys2Proof.Claims

theorem grantedOf_all {ws : List FetchWord} {s : State} (h : ws.length ≤ 12 - s.ownQueue.countP OwnEntry.isFetch) :
    grantedOf ws s = ws.length := min_eq_left h

/-- A requester with no more words than free places gives them all. -/
theorem gives_all {req : Requester} {ws : List FetchWord} {s : State}
    (h : ws.length ≤ 12 - s.ownQueue.countP OwnEntry.isFetch) :
    gives req ws s = { s with ownQueue := s.ownQueue ++ ws.map (OwnEntry.fetch req), placeWait := [] } := by
  unfold gives
  rw [grantedOf_all h, List.take_length, if_pos le_rfl]

/-- The setup record once word i has been answered. -/
def ApplyRec.wordTaken (r : ApplyRec) (i : Nat) (ans : ReadAnswer) : ApplyRec :=
  { r with words := r.words.set i (filled (r.words.getD i lackingWord) true true ans), outstanding := r.outstanding - 1 }

section
variable {s : State} {r : ApplyRec} {i : Nat} {f : FetchWord}

theorem recordFetching (h : RecordFetching i f r s) (ans : ReadAnswer) :
    exec (.fetchAnswer ans) s =
      .next (deliverRecord i ans.taken.1 ans.taken.2 (fetchEnded s (fetchedShadow f.addr ans s))) := by
  rw [fetchAnswer_delivers h.cycle h.window, h.dest]
  rfl

/-- An answer for word 0 or 1 that settles both lists the payload words (R139). -/
theorem deliverRecord_settles (h : s.setup.apply = some r) (ans : ReadAnswer) (hi : i < 2)
    (h0 : ((r.wordTaken i ans).word 0).settled = true) (h1 : ((r.wordTaken i ans).word 1).settled = true) :
    deliverRecord i ans.taken.1 ans.taken.2 s =
      goOnApply { r.wordTaken i ans with toFetch := s.payloadList (r.wordTaken i ans) } s := by
  unfold ApplyRec.wordTaken at *
  rw [filled_eq] at *
  unfold deliverRecord
  rw [h]
  refine if_pos ?_
  rw [Bool.and_eq_true, Bool.and_eq_true, decide_eq_true_iff]
  exact ⟨⟨hi, h0⟩, h1⟩

theorem deliverRecord_goesOn (h : s.setup.apply = some r) (ans : ReadAnswer)
    (hnot : ¬ (i < 2 ∧ ((r.wordTaken i ans).word 0).settled = true ∧ ((r.wordTaken i ans).word 1).settled = true)) :
    deliverRecord i ans.taken.1 ans.taken.2 s = goOnApply (r.wordTaken i ans) s := by
  unfold ApplyRec.wordTaken at *
  rw [filled_eq] at *
  unfold deliverRecord
  rw [h]
  refine if_neg ?_
  rw [Bool.and_eq_true, Bool.and_eq_true, decide_eq_true_iff, and_assoc]
  exact hnot

theorem deliverRecord_payload (h : s.setup.apply = some r) (ans : ReadAnswer) (hi : 2 ≤ i) :
    deliverRecord i ans.taken.1 ans.taken.2 s = goOnApply (r.wordTaken i ans) s :=
  deliverRecord_goesOn h ans fun hnot => absurd hnot.1 (by omega)

/-- The setup unit waits for answers or for places. -/
theorem goOnApply_stays (h : (r.toFetch = [] ∧ r.outstanding ≠ 0) ∨ (r.toFetch ≠ [] ∧ Requester.setup ∈ s.placeWait)) :
    goOnApply r s = { s with setup := { s.setup with apply := some r, result := .pending } } := by
  rw [goOnApply_waits (h.symm.imp And.left And.right)]
  exact askPlaces_same (h.imp And.left And.right)

/-- The setup unit's listed words are given as places are free. -/
theorem goOnApply_gives (hws : r.toFetch ≠ []) (hnone : s.placeWait = []) :
    goOnApply r s = gives .setup r.toFetch { s with setup := { s.setup with
      apply := some { r with toFetch := r.toFetch.drop (grantedOf r.toFetch s)
                             outstanding := r.outstanding + grantedOf r.toFetch s }
      result := .pending } } := by
  rw [goOnApply_waits (.inl hws)]
  exact askPlaces_gives (lists_record r) hws r.outstanding hnone

theorem goOnApply_gives_all (hws : r.toFetch ≠ []) (hnone : s.placeWait = [])
    (hfits : r.toFetch.length ≤ 12 - s.ownQueue.countP OwnEntry.isFetch) :
    goOnApply r s = { s with
      ownQueue := s.ownQueue ++ r.toFetch.map (OwnEntry.fetch .setup)
      setup := { s.setup with
        apply := some { r with toFetch := [], outstanding := r.outstanding + r.toFetch.length }
        result := .pending } } := by
  refine (goOnApply_gives hws hnone).trans ((gives_all ?_).trans ?_)
  · exact hfits
  · rw [grantedOf_all hfits, List.drop_length, ← hnone]

theorem kind_of_whole {hi lo : Byte} (hhi : (r.word 0).hi = some hi) (hlo : (r.word 0).lo = some lo) :
    r.kind = recordKindOf (hi ++ lo) := by
  unfold ApplyRec.kind
  rw [value_whole hhi hlo]
  rfl

theorem kind_lacking (h : (r.word 0).hi = none ∨ (r.word 0).lo = none) : r.kind = none := by
  unfold ApplyRec.kind
  rw [value_lacking h]
  rfl

theorem payloadOf_eq (v : Word) : payloadOf v.toNat = ((recordKindOf v).map RecordKind.payload).getD [] := by
  have hnat : ∀ n : Word, v = n ↔ v.toNat = n.toNat := fun n => ⟨congrArg _, BitVec.eq_of_toNat_eq⟩
  unfold payloadOf recordKindOf
  simp only [hnat, show (1 : Word).toNat = 1 from rfl, show (2 : Word).toNat = 2 from rfl,
    show (3 : Word).toNat = 3 from rfl, show (4 : Word).toNat = 4 from rfl, show (5 : Word).toNat = 5 from rfl,
    show (6 : Word).toNat = 6 from rfl, show (7 : Word).toNat = 7 from rfl]
  by_cases h1 : v.toNat = 1
  · simp only [h1]; rfl
  by_cases h2 : v.toNat = 2
  · simp only [h2]; rfl
  by_cases h3 : v.toNat = 3
  · simp only [h3]; rfl
  by_cases h4 : v.toNat = 4
  · simp only [h4]; rfl
  by_cases h5 : v.toNat = 5
  · simp only [h5]; rfl
  rw [if_neg h1, if_neg h2, if_neg (by omega), if_neg h5, if_neg h1, if_neg h2, if_neg h3, if_neg h4, if_neg h5]
  split <;> [rfl; split <;> rfl]

theorem payloadList_eq {hi lo : Byte} (hhi : (r.word 0).hi = some hi) (hlo : (r.word 0).lo = some lo) (s : State) :
    s.payloadList r = lackingRecord r.words (payloadOf (hi ++ lo : Word).toNat) s := by
  unfold State.payloadList
  rw [kind_of_whole hhi hlo, payloadOf_eq]
  cases recordKindOf (hi ++ lo) with
  | none => rfl
  | some k => exact recordList_eq ..

theorem payloadList_unknown (h : r.kind = none) (s : State) : s.payloadList r = [] := by
  unfold State.payloadList
  rw [h]

theorem complete_whole {t : TakenWord} {hi lo : Byte} (hhi : t.hi = some hi) (hlo : t.lo = some lo) :
    t.complete = true := by
  unfold TakenWord.complete
  rw [hhi, hlo]
  rfl

theorem complete_lacking {t : TakenWord} (h : t.hi = none ∨ t.lo = none) : t.complete = false := by
  unfold TakenWord.complete
  obtain h | h := h
  · rw [h]
    rfl
  · rw [h, Option.isSome_none, Bool.and_false]

theorem settled_of_complete {t : TakenWord} (h : t.complete = true) : t.settled = true := by
  unfold TakenWord.settled
  rw [h, Bool.true_or]

theorem settled_of {t : TakenWord}
    (h : (t.hi.isSome = true ∧ t.lo.isSome = true) ∨ t.hiDamaged = true ∨ t.loDamaged = true) : t.settled = true := by
  unfold TakenWord.settled TakenWord.complete TakenWord.damaged
  rw [Bool.or_eq_true, Bool.and_eq_true, Bool.or_eq_true]
  exact h

end

end Sys2Proof.Machine

namespace Sys2Proof
open Sys2Proof.Machine Sys2Proof.Claims

/-- Settles O55: what the copied record lacks is listed, and each answer brings it to the record's check. -/
theorem pendingAndBadKind : Obligations.PendingAndBadKind := by
  refine ⟨fun w ans s h => ?_, fun w ans vals s h hheld hkind => ?_, fun w ans r s hpass hword hrecord => ?_,
    fun i f r ans s h => ⟨_, fetchedShadow_spec _ _ _, ?_⟩⟩
  · intro m word lacking hlacking hnone hfree
    have hword : ∀ i, i < 18 → (copiedRecord (answersEnded w ans s)).word i = word i := fun i hi =>
      copiedRecord_word _ hi
    have hlist : (answersEnded w ans s).recordList (copiedRecord (answersEnded w ans s)) [0, 1] =
        lacking.map fun i => ⟨s.wordAddr .setup i, .record i⟩ := by
      unfold State.recordList
      refine congrArg (List.map _) (List.filter_congr fun i hi => ?_)
      have hsmall : i < 18 := by
        simp only [List.mem_cons, List.not_mem_nil, or_false] at hi
        omega
      rw [hword i hsmall, incomplete_eq]
    have hincomplete : ¬ (((copiedRecord (answersEnded w ans s)).word 0).complete = true ∧
        ((copiedRecord (answersEnded w ans s)).word 1).complete = true) := by
      rintro ⟨h0, h1⟩
      refine hlacking (List.filter_eq_nil_iff.mpr fun i hi => ?_)
      rw [← incomplete_eq]
      simp only [List.mem_cons, List.not_mem_nil, or_false] at hi
      obtain rfl | rfl := hi
      · rw [← hword 0 (by omega), h0]
        nofun
      · rw [← hword 1 (by omega), h1]
        nofun
    have hfew : lacking.length ≤ 2 := List.length_filter_le ..
    have hws : (lacking.map fun i => (⟨s.wordAddr .setup i, .record i⟩ : FetchWord)) ≠ [] := fun h =>
      hlacking (List.map_eq_nil_iff.mp h)
    change Host.Outcome.next (presentWrite w ans s) = _
    rw [presentWrite_apply h.passes h.word, startApply_lacking (s := answersEnded w ans s) h.idle hincomplete, hlist]
    have hfits : (lacking.map fun i => (⟨s.wordAddr .setup i, .record i⟩ : FetchWord)).length ≤
        12 - s.ownQueue.countP OwnEntry.isFetch := by
      rw [List.length_map]
      omega
    refine congrArg Host.Outcome.next ((goOnApply_gives_all (s := answersEnded w ans s) hws hnone hfits).trans ?_)
    dsimp only
    rw [List.map_map, List.length_map, show (copiedRecord (answersEnded w ans s)).outstanding = 0 from rfl,
      Nat.zero_add]
    rfl
  · have hunknown := recordKindOf_unknown hkind
    obtain ⟨r, hwords, hrecord⟩ := presentWrite_record h hheld (by decide) (by decide) (by decide)
      fun k hk => by
        rw [hunknown] at hk
        cases hk
    change Host.Outcome.next (presentWrite w ans s) = _
    rw [hrecord, applyRecord_unknown ((hwords.kind (by decide)).trans hunknown)]
    rfl
  · change Host.Outcome.next (presentWrite w ans s) = _
    rw [presentWrite_apply hpass hword]
    unfold startApply
    rw [show (answersEnded w ans s).setup.apply = some r from hrecord]
    rfl
  · intro t
    have hrecord : (fetchEnded s (fetchedShadow f.addr ans s)).setup.apply = some r := h.record
    rw [recordFetching h]
    refine ⟨fun hi hwaits => ?_, fun hi hout hnone b0 b1 => ?_, fun hi hlist hout hlacks => ?_,
      fun hi hlist hout hlong hlink hgoodHi hgoodLo => ⟨fun b0 b1 hhi hlo => ?_, fun hlacks => ?_⟩⟩
    · rw [deliverRecord_payload hrecord ans hi]
      refine congrArg Host.Outcome.next (goOnApply_stays (hwaits.imp (fun ⟨hlist, hout⟩ => ⟨hlist, ?_⟩) id))
      change r.outstanding - 1 ≠ 0
      omega
    · intro words ws hhi hlo h1 hws
      rw [deliverRecord_settles hrecord ans hi (settled_of_complete (complete_whole hhi hlo)) (settled_of h1),
        payloadList_eq (r := r.wordTaken i ans) hhi hlo]
      refine congrArg Host.Outcome.next ((goOnApply_gives (s := fetchEnded s (fetchedShadow f.addr ans s)) hws
        hnone).trans ?_)
      dsimp only [ApplyRec.wordTaken]
      rw [hout, Nat.zero_add]
      rfl
    · subst hi
      have hkind : (r.wordTaken 0 ans).kind = none := by
        refine kind_lacking ?_
        unfold ApplyRec.word ApplyRec.wordTaken
        obtain hnil | hcons := r.words.length.eq_zero_or_pos
        · rw [List.length_eq_zero_iff.mp hnil]
          exact .inl rfl
        · dsimp only
          rw [List.getD_eq_getElem?_getD, List.getElem?_set_self hcons, Option.getD_some]
          exact hlacks
      have hout' : r.outstanding - 1 = 0 := by omega
      refine congrArg Host.Outcome.next ?_
      by_cases hboth : (0 < 2 ∧ ((r.wordTaken 0 ans).word 0).settled = true ∧
          ((r.wordTaken 0 ans).word 1).settled = true)
      · obtain ⟨hsmall, h0, h1⟩ := hboth
        exact (deliverRecord_settles hrecord ans hsmall h0 h1).trans ((goOnApply_settled
          (payloadList_unknown hkind _) hout' _).trans (applyRecord_unknown hkind _))
      · exact (deliverRecord_goesOn hrecord ans hboth).trans ((goOnApply_settled (r := r.wordTaken 0 ans) hlist
          hout' _).trans (applyRecord_unknown hkind _))
    all_goals
      subst hi
      have hout' : r.outstanding - 1 = 0 := by omega
      have hword0 : (r.wordTaken 2 ans).word 0 = ⟨some 0, some 5, false, false⟩ := by
        rw [← hlink]
        unfold ApplyRec.word ApplyRec.wordTaken
        dsimp only
        rw [List.getD_eq_getElem?_getD, List.getElem?_set_ne (by omega), ← List.getD_eq_getElem?_getD]
        rfl
      have hword2 : (r.wordTaken 2 ans).word 2 = t := by
        unfold ApplyRec.word ApplyRec.wordTaken
        dsimp only
        rw [List.getD_eq_getElem?_getD, List.getElem?_set_self hlong, Option.getD_some]
      have hkind : (r.wordTaken 2 ans).kind = some .link := by
        unfold ApplyRec.kind
        rw [hword0]
        rfl
      rw [deliverRecord_payload hrecord ans le_rfl, goOnApply_settled (r := r.wordTaken 2 ans) hlist hout']
    · have hnum : (r.wordTaken 2 ans).num 2 = (b0 ++ b1 : Word).toNat := by
        unfold ApplyRec.num ApplyRec.field
        rw [hword2, value_whole hhi hlo]
        rfl
      have hcomplete : ∀ i ∈ RecordKind.link.uses, ((r.wordTaken 2 ans).word i).complete = true := by
        intro i hi
        obtain rfl := List.mem_singleton.mp hi
        rw [hword2]
        exact complete_whole hhi hlo
      rw [applyRecord_of_kind hkind hcomplete, RecordKind.apply, applyLink, hnum]
      refine ⟨fun hlow hhigh => congrArg Host.Outcome.next (if_pos ((within_iff ..).mpr ⟨hlow, hhigh⟩)),
        fun hbad => congrArg Host.Outcome.next (if_neg fun hin => ?_)⟩
      obtain ⟨hlow, hhigh⟩ := (within_iff ..).mp hin
      omega
    · rw [applyRecord_damaged hkind (List.mem_singleton.mpr rfl) (by rw [hword2]; exact complete_lacking hlacks)]
      rfl

end Sys2Proof
end

section
/-! PROOF. The EJECT, pressed or pending, and a pending STOP (R15, R54, R56, R159, R160). -/

namespace Sys2Proof.Machine
open Sys2Proof.Claims

/-! ### Registers that no close reads -/

/-- A change of a channel that leaves alone what a close reads and writes: layout, pending sheet, clip count. -/
structure Apart (f : Channel → Channel) : Prop where
  layout : ∀ c, (f c).layout = c.layout
  pending : ∀ c, (f c).pendSheet = c.pendSheet
  clips : ∀ c n, { f c with clipped := saturated (f c).clipped n } = f { c with clipped := saturated c.clipped n }
  pends : ∀ c x, { f c with pendSheet := x } = f { c with pendSheet := x }

section
variable {f : Channel → Channel} {ch : ChannelId} {s : State}

theorem entered_apart (h : Apart f) (ch : ChannelId) (f0 : Form) (f1 : Option Form) (s : State) :
    entered ch f0 f1 (s.modCh ch f) = (entered ch f0 f1 s).modCh ch f := by
  have hch : (s.modCh ch f).ch ch = f (s.ch ch) := State.ch_modCh_same ..
  have hmod : ∀ n, (s.modCh ch f).modCh ch (fun c => { c with clipped := saturated c.clipped n }) =
      (s.modCh ch fun c => { c with clipped := saturated c.clipped n }).modCh ch f := fun n => by
    rw [State.modCh_modCh, State.modCh_modCh]
    exact modCh_congr (h.clips ..)
  unfold entered sheetOf
  dsimp only
  rw [hch, h.layout, hmod]
  cases ch <;> rfl

/-- Where a closed form goes does not hang on the registers that no close reads. -/
theorem routeClose_apart (h : Apart f) (ch : ChannelId) (form : Form) (s : State) :
    routeClose ch form (s.modCh ch f) = (routeClose ch form s).modCh ch f := by
  have hch : (s.modCh ch f).ch ch = f (s.ch ch) := State.ch_modCh_same ..
  cases htwo : (s.ch ch).layout.geo.twoUp with
  | false =>
    rw [routeClose_oneUp (by rw [hch, h.layout]; exact htwo), routeClose_oneUp htwo, entered_apart h]
  | true =>
    have htwo' : ((s.modCh ch f).ch ch).layout.geo.twoUp = true := by rw [hch, h.layout]; exact htwo
    cases hpend : (s.ch ch).pendSheet with
    | none =>
      rw [routeClose_first htwo' (by rw [hch, h.pending]; exact hpend), routeClose_first htwo hpend,
        State.modCh_modCh, State.modCh_modCh]
      exact modCh_congr (h.pends ..)
    | some f0 =>
      rw [routeClose_second htwo' (by rw [hch, h.pending]; exact hpend), routeClose_second htwo hpend,
        ← entered_apart h, State.modCh_modCh, State.modCh_modCh]
      exact congrArg _ (modCh_congr (h.pends ..))

/-- The channel with its pending STOP set to a value. -/
def Channel.withStop (b : Bool) (c : Channel) : Channel := { c with pendStop := b }

theorem apart_withStop (b : Bool) : Apart (Channel.withStop b) :=
  ⟨fun _ => rfl, fun _ => rfl, fun _ _ => rfl, fun _ _ => rfl⟩

end

/-! ### The movement of an EJECT (R54, R56) -/

theorem ejectMoves_iff (c : Channel) :
    c.ejectMoves = true ↔ ∃ p, c.paper = some p ∧ (0 < p.pos ∨ 0 < p.form.cellCount) := by
  unfold Channel.ejectMoves
  cases c.paper with
  | none => simp
  | some p =>
    simp only [Bool.not_eq_true', Bool.and_eq_false_iff, decide_eq_false_iff_not, Option.some.injEq,
      exists_eq_left']
    omega

theorem ejectMoves_still {c : Channel} (h : ∀ p ∈ c.paper, p.pos = 0 ∧ p.form.cellCount = 0) :
    ¬ c.ejectMoves = true := by
  rw [ejectMoves_iff]
  rintro ⟨p, hp, hmoves⟩
  have := h p hp
  omega

section
variable {ch : ChannelId} {p : Paper} {s : State}

/-- The state once the walk of an EJECT to line 0 of the next form has closed and routed the open form. -/
def ejected (ch : ChannelId) (p : Paper) (s : State) : State :=
  routeClose ch p.form (s.modCh ch (movedOnto p (p.tape.masks.length - p.pos)))

theorem dropRunOut_inState (ch : ChannelId) (op : Op) (s : State) :
    startOp ch op s = (dropRunOut ch s).modCh ch (Channel.inState (.busy op)) := startOp_eq ..

theorem startEject_wrapped (hpaper : (s.ch ch).paper = some p) (hp : PaperOk p) :
    startEject ch s =
      if roomMet ch true (startOp ch ejectOp s) then
        endPanelOp ch ((ejected ch p (dropRunOut ch s)).modCh ch (Channel.inState (.busy ejectOp)))
      else joinRoom (.move ch) (startOp ch ejectOp s) := by
  have hfew : p.tape.masks.length - p.pos ≤ p.tape.masks.length := Nat.sub_le ..
  have hpos := hp.pos_lt
  have hpaper' : ((startOp ch ejectOp s).ch ch).paper = some p := by
    rw [dropRunOut_inState, State.ch_modCh_same, dropRunOut_ch_same]
    exact hpaper
  have hwraps : (((startOp ch ejectOp s).ch ch).walk p (p.tape.masks.length - p.pos)).wrapped = true := by
    rw [walk_wrapped hpos hfew]
    exact decide_eq_true (by omega)
  have hcarried : carried ch p (p.tape.masks.length - p.pos) (startOp ch ejectOp s) =
      (ejected ch p (dropRunOut ch s)).modCh ch (Channel.inState (.busy ejectOp)) := by
    rw [dropRunOut_inState, carried_inState]
    unfold carried
    rw [if_neg (by omega)]
    rfl
  unfold startEject panelMove
  rw [hpaper']
  change (if roomMet ch (((startOp ch ejectOp s).ch ch).walk p (p.tape.masks.length - p.pos)).wrapped
      (startOp ch ejectOp s) = true then
        endPanelOp ch (makeMove ch p (((startOp ch ejectOp s).ch ch).walk p (p.tape.masks.length - p.pos))
          (startOp ch ejectOp s))
      else _) = _
  rw [hwraps, makeMove_eq_carried hpos hfew, hcarried]

/-- An EJECT with room walks, closes and routes the form, and ends (R56, R160). -/
theorem startEject_moves (hpaper : (s.ch ch).paper = some p) (hp : PaperOk p)
    (hfits : ((s.ch ch).layout.geo.twoUp = true ∧ (s.ch ch).pendSheet = none) ∨ s.queue.length < 8) :
    startEject ch s = endPanelOp ch (ejected ch p (dropRunOut ch s)) := by
  have hroom : roomMet ch true (startOp ch ejectOp s) = true := by
    refine roomMet_of_fits ?_ true
    rw [dropRunOut_inState, State.ch_modCh_same, dropRunOut_ch_same]
    exact hfits
  rw [startEject_wrapped hpaper hp, if_pos hroom]
  unfold endPanelOp
  rw [State.modCh_modCh]
  rfl

/-- An EJECT whose close would enter a full queue waits in MOVING (R54). -/
theorem startEject_waits (hpaper : (s.ch ch).paper = some p) (hp : PaperOk p)
    (hneeds : (s.ch ch).layout.geo.twoUp = false ∨ (s.ch ch).pendSheet.isSome = true) (hfull : 8 ≤ s.queue.length)
    (hnew : Claim.move ch ∉ s.roomWait) :
    startEject ch s = { (dropRunOut ch s).modCh ch (Channel.inState (.busy ejectOp)) with
      roomWait := (dropRunOut ch s).roomWait ++ [.move ch] } := by
  have hroom : roomMet ch true (startOp ch ejectOp s) = false := by
    refine roomMet_of_full ?_ hfull
    rw [dropRunOut_inState, State.ch_modCh_same, dropRunOut_ch_same]
    exact hneeds
  have hnew' : Claim.move ch ∉ (startOp ch ejectOp s).roomWait := fun hmem => hnew (List.mem_of_mem_filter hmem)
  rw [startEject_wrapped hpaper hp, hroom, if_neg nofun, joinRoom_new hnew', dropRunOut_inState]
  rfl

theorem ejected_cellWait (ch : ChannelId) (p : Paper) (s : State) : (ejected ch p s).cellWait = s.cellWait :=
  routeClose_cellWait ..

theorem endPanelOp_settled (n : Nat) (ch : ChannelId) (p : Paper) {s : State} (hnone : s.cellWait = []) :
    settleFrom n (endPanelOp ch (ejected ch p s)) = endPanelOp ch (ejected ch p s) :=
  settleFrom_none ((State.modCh_cellWait ..).trans ((ejected_cellWait ..).trans hnone))

/-- The channel of an EJECT's close keeps all but its carriage, pending sheet and clip count. -/
theorem ejected_ch (ch : ChannelId) (p : Paper) (s : State) :
    ∃ sheet clipped, (ejected ch p s).ch ch =
      { movedOnto p (p.tape.masks.length - p.pos) (s.ch ch) with pendSheet := sheet, clipped := clipped } := by
  obtain ⟨sheet, clipped, h⟩ := routeClose_ch ch p.form (s.modCh ch (movedOnto p (p.tape.masks.length - p.pos)))
  rw [State.ch_modCh_same] at h
  exact ⟨sheet, clipped, h⟩

theorem ejected_withStop (ch : ChannelId) (p : Paper) (b : Bool) (s : State) :
    ejected ch p (s.modCh ch (Channel.withStop b)) = (ejected ch p s).modCh ch (Channel.withStop b) := by
  unfold ejected
  rw [← routeClose_apart (apart_withStop b), State.modCh_modCh, State.modCh_modCh]
  exact congrArg _ (modCh_congr rfl)

theorem dropRunOut_withStop (ch : ChannelId) (b : Bool) (s : State) :
    dropRunOut ch (s.modCh ch (Channel.withStop b)) = (dropRunOut ch s).modCh ch (Channel.withStop b) := by
  cases ch <;> rfl

/-! ### An EJECT at a channel (R159) -/

theorem ejectChannel_idle (hidle : (s.ch ch).state = .idle) (hmoves : (s.ch ch).ejectMoves = true) :
    ejectChannel ch s = settleFrom s.freeCells (startEject ch s) := by
  unfold ejectChannel
  rw [hidle]
  exact if_pos hmoves

theorem ejectChannel_stopped (hstopped : (s.ch ch).state = .stopped) (hmoves : (s.ch ch).ejectMoves = true) :
    ejectChannel ch s = settleFrom s.freeCells (startEject ch (s.modCh ch (Channel.withStop true))) := by
  unfold ejectChannel
  rw [hstopped]
  exact if_pos hmoves

theorem ejectChannel_none (h : (s.ch ch).state = .offline ∨ (s.ch ch).state = .halted ∨
    (((s.ch ch).state = .idle ∨ (s.ch ch).state = .stopped) ∧
      ∀ p ∈ (s.ch ch).paper, p.pos = 0 ∧ p.form.cellCount = 0)) : ejectChannel ch s = s := by
  unfold ejectChannel
  obtain h | h | ⟨h | h, hstill⟩ := h
  · rw [h]
  · rw [h]
  · rw [h]
    exact if_neg (ejectMoves_still hstill)
  · rw [h]
    exact if_neg (ejectMoves_still hstill)

theorem ejectChannel_busy {op : Op} (h : (s.ch ch).state = .busy op) :
    ejectChannel ch s = s.modCh ch fun c => { c with pendEject := true } := by
  unfold ejectChannel
  rw [h]

/-- An EJECT from IDLE or STOPPED with movement and room ends in the state it began in. -/
theorem ejectChannel_ends (hpaper : (s.ch ch).paper = some p) (hp : PaperOk p)
    (hmoves : 0 < p.pos ∨ 0 < p.form.cellCount)
    (hquiet : ((s.ch ch).state = .idle ∧ (s.ch ch).pendStop = false) ∨ (s.ch ch).state = .stopped)
    (hnone : s.cellWait = [])
    (hfits : ((s.ch ch).layout.geo.twoUp = true ∧ (s.ch ch).pendSheet = none) ∨ s.queue.length < 8) :
    ejectChannel ch s = (ejected ch p (dropRunOut ch s)).modCh ch fun c =>
      { c with state := (s.ch ch).state, pendStop := false, pendEject := false, stall := 0
               runOut := c.layout.runOut } := by
  have hejects : (s.ch ch).ejectMoves = true := (ejectMoves_iff _).mpr ⟨p, hpaper, hmoves⟩
  obtain ⟨sheet, clipped, hch⟩ := ejected_ch ch p (dropRunOut ch s)
  rw [dropRunOut_ch_same] at hch
  obtain ⟨hidle, hstop⟩ | hstopped := hquiet
  · rw [ejectChannel_idle hidle hejects, startEject_moves hpaper hp hfits]
    refine (endPanelOp_settled _ ch p (s := dropRunOut ch s) hnone).trans (modCh_congr ?_)
    rw [hch, hidle]
    simp only [movedOnto, hstop]
    rfl
  · have hch' : (s.modCh ch (Channel.withStop true)).ch ch = (s.ch ch).withStop true := State.ch_modCh_same ..
    rw [ejectChannel_stopped hstopped hejects, startEject_moves (s := s.modCh ch (Channel.withStop true)) (p := p)
      (by rw [hch']; exact hpaper) hp (by rw [hch']; exact hfits)]
    refine (endPanelOp_settled _ ch p (s := dropRunOut ch (s.modCh ch (Channel.withStop true)))
      (by rw [dropRunOut_cellWait, State.modCh_cellWait, hnone])).trans ?_
    rw [dropRunOut_withStop, ejected_withStop]
    unfold endPanelOp
    rw [State.modCh_modCh]
    refine modCh_congr ?_
    rw [hstopped]
    rfl

/-- An EJECT from IDLE or STOPPED without room waits. -/
theorem ejectChannel_waits (hpaper : (s.ch ch).paper = some p) (hp : PaperOk p)
    (hmoves : 0 < p.pos ∨ 0 < p.form.cellCount)
    (hquiet : ((s.ch ch).state = .idle ∧ (s.ch ch).pendStop = false) ∨ (s.ch ch).state = .stopped)
    (hneeds : (s.ch ch).layout.geo.twoUp = false ∨ (s.ch ch).pendSheet.isSome = true) (hfull : 8 ≤ s.queue.length)
    (hnew : Claim.move ch ∉ s.roomWait) :
    ejectChannel ch s = { (dropRunOut ch s).modCh ch (fun c =>
          { c with state := .busy ejectOp, pendStop := c.pendStop || decide (c.state = .stopped) }) with
      roomWait := (dropRunOut ch s).roomWait ++ [.move ch] } := by
  have hejects : (s.ch ch).ejectMoves = true := (ejectMoves_iff _).mpr ⟨p, hpaper, hmoves⟩
  obtain ⟨hidle, hstop⟩ | hstopped := hquiet
  · rw [ejectChannel_idle hidle hejects, startEject_waits hpaper hp hneeds hfull hnew]
    refine Eq.trans (settleFrom_same (le_refl s.freeCells)) ?_
    refine congrArg (fun u : State => { u with roomWait := (dropRunOut ch s).roomWait ++ [Claim.move ch] }) (modCh_congr ?_)
    rw [dropRunOut_ch_same]
    simp only [Channel.inState, hidle, hstop]
    rfl
  · have hch' : (s.modCh ch (Channel.withStop true)).ch ch = (s.ch ch).withStop true := State.ch_modCh_same ..
    rw [ejectChannel_stopped hstopped hejects, startEject_waits (s := s.modCh ch (Channel.withStop true)) (p := p)
      (by rw [hch']; exact hpaper) hp (by rw [hch']; exact hneeds) hfull hnew, dropRunOut_withStop, State.modCh_modCh]
    refine Eq.trans (settleFrom_same (le_refl s.freeCells)) ?_
    refine congrArg (fun u : State => { u with roomWait := (dropRunOut ch s).roomWait ++ [Claim.move ch] }) (modCh_congr ?_)
    rw [dropRunOut_ch_same]
    simp only [Channel.inState, Channel.withStop, hstopped, decide_true, Bool.or_true]

end

/-! ### The pending actions of a completion (R14, R15; log entry 11) -/

section
variable {ch : ChannelId} {op : Op} {p : Paper} {s : State}

theorem endOp_refused (hbusy : (s.ch ch).state = .busy op) (hkind : op.kind = .loadTape) :
    endOp ch .tapeRefused s = settleFrom s.freeCells (applyPending ch
      (s.modCh ch fun c => finished op.ie { c with reject := true })) := by
  have hmod : (s.modCh ch fun c => c.completed op .tapeRefused) =
      s.modCh ch fun c => finished op.ie { c with reject := true } := by
    refine modCh_congr ?_
    simp [Channel.completed, finished, OpOutcome.halts, hkind, OpKind.isPrint]
  have hcomplete : complete ch .tapeRefused s =
      applyPending ch (s.modCh ch fun c => finished op.ie { c with reject := true }) := by
    unfold complete
    rw [hbusy]
    dsimp only
    rw [hkind, hmod]
    rfl
  rw [endOp, hcomplete]

theorem applyPending_stop (heject : (s.ch ch).pendEject = false) : applyPending ch s = settleStop ch s := by
  unfold applyPending
  rw [heject]
  rfl

theorem applyPending_still (heject : (s.ch ch).pendEject = true)
    (hstill : ∀ p ∈ (s.ch ch).paper, p.pos = 0 ∧ p.form.cellCount = 0) :
    applyPending ch s = settleStop ch (s.modCh ch fun c => { c with pendEject := false }) := by
  unfold applyPending
  rw [if_pos heject]
  exact if_neg (ejectMoves_still hstill)

theorem applyPending_ejects (heject : (s.ch ch).pendEject = true) (hpaper : (s.ch ch).paper = some p)
    (hmoves : 0 < p.pos ∨ 0 < p.form.cellCount) :
    applyPending ch s = startEject ch (s.modCh ch fun c => { c with pendEject := false }) := by
  unfold applyPending
  rw [if_pos heject]
  exact if_pos ((ejectMoves_iff _).mpr ⟨p, hpaper, hmoves⟩)

end

end Sys2Proof.Machine

namespace Sys2Proof
open Sys2Proof.Machine Sys2Proof.Claims

/-- Settles O41: the press by the channel's state, and a completion's pending EJECT before its pending STOP. -/
theorem eject : Obligations.Eject := by
  refine ⟨fun ch s hopen hselector => ?_, fun ch f op r s h hkind hstage hlacks => ⟨_, fetchedShadow_spec _ _ _, ?_⟩⟩
  · intro pressed starts
    have hpress : exec .eject s = .next (ejectChannel ch pressed) := by
      change Host.Outcome.next (press .eject ejectChannel s) = _
      unfold press
      rw [show s.panel.contact .eject = .opened from hopen, hselector]
      rfl
    have hch : pressed.ch ch = s.ch ch := by cases ch <;> rfl
    rw [hpress]
    refine ⟨fun p hpaper hp hmoves hquiet hnone => ⟨fun hfits => congrArg Host.Outcome.next ?_,
        fun hneeds hfull hnew => congrArg Host.Outcome.next ?_⟩,
      fun hstill => congrArg Host.Outcome.next (ejectChannel_none (by rw [hch]; exact hstill)),
      fun op hbusy => congrArg Host.Outcome.next (ejectChannel_busy (op := op) (by rw [hch]; exact hbusy))⟩
    · rw [ejectChannel_ends (s := pressed) (p := p) (by rw [hch]; exact hpaper) hp hmoves (by rw [hch]; exact hquiet)
        hnone (by rw [hch]; exact hfits), hch]
      rfl
    · rw [ejectChannel_waits (s := pressed) (p := p) (by rw [hch]; exact hpaper) hp hmoves
        (by rw [hch]; exact hquiet) (by rw [hch]; exact hneeds) hfull hnew]
      rfl
  · intro t starts
    have hbusy : ((fetchEnded s (fetchedShadow f.addr .noResponse s)).ch ch).state = .busy op := by
      rw [fetchEnded_ch]
      exact h.busy
    have hlacks' : (filled (r.words.getD 0 lackingWord) true true .noResponse).hi = none := by
      unfold filled
      rw [hlacks]
      rfl
    have hexec : exec (.fetchAnswer .noResponse) s = .next (settleFrom s.freeCells (applyPending ch t)) := by
      rw [fetching_tape h hstage, deliverTape_damaged .noResponse (.inl hlacks'), endOp_refused hbusy hkind]
      rfl
    have hch : t.ch ch = finished op.ie { s.ch ch with reject := true } :=
      (State.ch_modCh_same ..).trans (by rw [fetchEnded_ch])
    have hsame : ∀ u : State, u.freeCells = s.freeCells → settleFrom s.freeCells u = u := fun u hu =>
      settleFrom_same hu.le
    have hstarts : dropRunOut ch (t.modCh ch fun c => { c with pendEject := false }) = starts := by
      cases ch <;> rfl
    rw [hexec]
    refine ⟨fun heject hstop => congrArg Host.Outcome.next ?_, fun heject hstill => congrArg Host.Outcome.next ?_,
      fun p heject hpaper hp hmoves hnone => ⟨fun hfits => congrArg Host.Outcome.next ?_,
        fun hneeds hfull hnew => congrArg Host.Outcome.next ?_⟩⟩
    · rw [applyPending_stop (by rw [hch]; exact heject)]
      refine Eq.trans (hsame (settleStop ch t) rfl) (modCh_congr ?_)
      rw [hch]
      simp only [finished, hstop]
      rfl
    · rw [applyPending_still (by rw [hch]; exact heject) (by rw [hch]; exact hstill)]
      refine Eq.trans (hsame (settleStop ch _) rfl) ?_
      exact State.modCh_modCh ..
    · have hch' : (t.modCh ch fun c => { c with pendEject := false }).ch ch =
          { finished op.ie { s.ch ch with reject := true } with pendEject := false } :=
        (State.ch_modCh_same ..).trans (by rw [hch])
      obtain ⟨sheet, clipped, hejected⟩ := ejected_ch ch p starts
      have hstartsCh : starts.ch ch = { finished op.ie { s.ch ch with reject := true } with
          pendEject := false, runOutDue := false } := by
        rw [← hstarts, dropRunOut_ch_same, hch']
      rw [applyPending_ejects (p := p) (by rw [hch]; exact heject) (by rw [hch]; exact hpaper) hmoves,
        startEject_moves (s := t.modCh ch fun c => { c with pendEject := false }) (p := p)
          (by rw [hch']; exact hpaper) hp (by rw [hch']; exact hfits), hstarts]
      refine (endPanelOp_settled _ ch p (s := starts) hnone).trans (modCh_congr ?_)
      change (_ : Channel) = { (ejected ch p starts).ch ch with
        state := if ((ejected ch p starts).ch ch).pendStop then .stopped else .idle, pendStop := false }
      rw [hejected, hstartsCh]
      rfl
    · have hch' : (t.modCh ch fun c => { c with pendEject := false }).ch ch =
          { finished op.ie { s.ch ch with reject := true } with pendEject := false } :=
        (State.ch_modCh_same ..).trans (by rw [hch])
      rw [applyPending_ejects (p := p) (by rw [hch]; exact heject) (by rw [hch]; exact hpaper) hmoves,
        startEject_waits (s := t.modCh ch fun c => { c with pendEject := false }) (p := p)
          (by rw [hch']; exact hpaper) hp (by rw [hch']; exact hneeds) hfull hnew, hstarts]
      exact hsame _ rfl

end Sys2Proof
end

section
/-! PROOF. The reply that ends a sheet's life: the place offered, the cells freed, the next sheet begun (R100, R101,
R106, R111, R112). -/

namespace Sys2Proof.Machine
open Sys2Proof.Claims

/-! ### A link that is not idle does not matter to the sheets (R106) -/

section
variable {s t u : State} {l : LinkCtl}

theorem entered_withLink (ch : ChannelId) (f0 : Form) (f1 : Option Form) (hs : s.link.state ≠ .idleUp)
    (hl : l.state ≠ .idleUp) : entered ch f0 f1 { s with link := l } = { entered ch f0 f1 s with link := l } := by
  have hs' : ¬ (s.link.state = .idleUp ∧ s.queue = []) := fun h => hs h.1
  have hl' : ¬ (l.state = .idleUp ∧ s.queue = []) := fun h => hl h.1
  unfold entered
  dsimp only
  rw [if_neg hl', if_neg hl', if_neg hs']
  cases ch <;> rfl

theorem routeClose_withLink (ch : ChannelId) (f : Form) (hs : s.link.state ≠ .idleUp) (hl : l.state ≠ .idleUp) :
    routeClose ch f { s with link := l } = { routeClose ch f s with link := l } := by
  have hch : State.ch { s with link := l } ch = s.ch ch := by cases ch <;> rfl
  cases htwo : (s.ch ch).layout.geo.twoUp with
  | false => rw [routeClose_oneUp (by rw [hch]; exact htwo), routeClose_oneUp htwo, entered_withLink ch f none hs hl]
  | true =>
    cases hpend : (s.ch ch).pendSheet with
    | none =>
      rw [routeClose_first (by rw [hch]; exact htwo) (by rw [hch]; exact hpend), routeClose_first htwo hpend]
      cases ch <;> rfl
    | some f0 =>
      rw [routeClose_second (by rw [hch]; exact htwo) (by rw [hch]; exact hpend), routeClose_second htwo hpend,
        ← entered_withLink (s := s.modCh ch fun c => { c with pendSheet := none }) ch f0 (some f) hs hl]
      cases ch <;> rfl

theorem carried_withLink (ch : ChannelId) (p : Paper) (m : Nat) (hs : s.link.state ≠ .idleUp)
    (hl : l.state ≠ .idleUp) : carried ch p m { s with link := l } = { carried ch p m s with link := l } := by
  unfold carried
  split
  · cases ch <;> rfl
  · rw [← routeClose_withLink (s := s.modCh ch (movedOnto p m)) ch p.form hs hl]
    cases ch <;> rfl

theorem routeClose_link (ch : ChannelId) (f : Form) (hs : s.link.state ≠ .idleUp) :
    (routeClose ch f s).link = s.link := by
  have hsame := congrArg State.link (routeClose_withLink (l := s.link) ch f hs hs)
  exact hsame

theorem entered_link (ch : ChannelId) (f0 : Form) (f1 : Option Form) (hs : s.link.state ≠ .idleUp) :
    (entered ch f0 f1 s).link = s.link := by
  have hsame := congrArg State.link (entered_withLink (l := s.link) ch f0 f1 hs hs)
  exact hsame

theorem offered_link (h : Offered s t) (hs : s.link.state ≠ .idleUp) : t.link = s.link := by
  obtain ⟨_, rfl⟩ | ⟨ch, op, p, _, _, _, _, _, _, _, _, _, _, _, rfl⟩ | ⟨ch, p, _, _, _, _, _, rfl⟩ := h
  · rfl
  · exact routeClose_link (s := { s with roomWait := [] }.modCh ch (movedOnto p op.count)) ch p.form hs
  · exact entered_link (s := { s with roomWait := [] }.modCh ch fun c =>
      { c with runOutDue := false, paper := some (broken p) }) ch p.form none hs

theorem offered_withLink (h : Offered s t) (hs : s.link.state ≠ .idleUp) (hl : l.state ≠ .idleUp) :
    Offered { s with link := l } { t with link := l } := by
  obtain ⟨hnone, rfl⟩ | ⟨ch, op, p, hlist, hroom, hbusy, hstage, hkind, hcount, hpaper, hp, hover, hstop, heject, rfl⟩ |
    ⟨ch, p, hlist, hroom, hpaper, hcells, hnone, rfl⟩ := h
  · exact .inl ⟨hnone, rfl⟩
  · refine .inr (.inl ⟨ch, op, p, hlist, hroom, hbusy, hstage, hkind, hcount, hpaper, hp, hover, hstop, heject, ?_⟩)
    have hclose := routeClose_withLink (s := { s with roomWait := [] }.modCh ch (movedOnto p op.count)) ch p.form hs hl
    refine Eq.trans (Eq.trans ?_ (congrArg (fun v : State => v.modCh ch (finished op.ie)) hclose).symm) ?_
    · cases ch <;> rfl
    · cases ch <;> rfl
  · refine .inr (.inr ⟨ch, p, hlist, hroom, hpaper, hcells, hnone, ?_⟩)
    refine (entered_withLink (s := { s with roomWait := [] }.modCh ch fun c =>
      { c with runOutDue := false, paper := some (broken p) }) ch p.form none hs hl).symm.trans ?_
    cases ch <;> rfl

theorem retried_withLink {n : Nat} (h : Retried n s u) (hs : s.link.state ≠ .idleUp) (hl : l.state ≠ .idleUp) :
    Retried n { s with link := l } { u with link := l } := by
  obtain ⟨hnone, rfl⟩ | ⟨ch, op, strikes, p, hwait, hbusy, hstage, hpaper, hfew, hcase⟩ := h
  · exact .inl ⟨hnone, rfl⟩
  refine .inr ⟨ch, op, strikes, p, hwait, hbusy, hstage, hpaper, hfew, ?_⟩
  obtain ⟨hstuck, hqueue, rfl⟩ | ⟨hcells, hp, hkind, hcount, hstop, heject, hroom, rfl⟩ |
    ⟨hcells, hp, hkind, hcount, hover, hfull, hnew, hneeds, rfl⟩ := hcase
  · exact .inl ⟨hstuck, hqueue, rfl⟩
  · refine .inr (.inl ⟨hcells, hp, hkind, hcount, hstop, heject, hroom, ?_⟩)
    have hcarried := carried_withLink (s := { s.modCh ch (fun c =>
        { c with
          paper := some (struck p strikes)
          droppedStrikes := saturated c.droppedStrikes (overfull p strikes) }) with
      cellWait := [], freeCells := s.freeCells + n - needed p strikes }) ch (struck p strikes) op.count hs hl
    refine Eq.trans (Eq.trans ?_ (congrArg (fun v : State =>
      { v.modCh ch (fun c => { finished op.ie c with tally := c.tally + 1 }) with
        ownQueue := withTally ch (s.wordAddr (.control ch) 3) ((s.ch ch).tally + 1) s.ownQueue }) hcarried).symm) ?_
    · cases ch <;> rfl
    · cases ch <;> rfl
  · refine .inr (.inr ⟨hcells, hp, hkind, hcount, hover, hfull, hnew, hneeds, ?_⟩)
    cases ch <;> rfl

/-! ### The place offered and the line retried (R69, R100, R101) -/

theorem offerPlace_single {x : Claim} (hlist : s.roomWait = [x]) (hroom : s.queue.length < 8) :
    offerPlace s = settleFrom s.freeCells (takeClaim x s) := by
  have htakable : claimTakable x s = true := by
    have hplace := hasPlace_of_room hroom
    cases x <;> simp [claimTakable, hplace]
  unfold offerPlace
  rw [hlist, offerClaims, if_pos htakable]
  rfl

/-- A close gives back no cells, or has made a sheet enter. -/
theorem routeClose_frees (ch : ChannelId) (f : Form) (s : State) :
    (routeClose ch f s).freeCells = s.freeCells ∨ (routeClose ch f s).queue ≠ [] := by
  cases htwo : (s.ch ch).layout.geo.twoUp with
  | false =>
    rw [routeClose_oneUp htwo]
    exact .inr (entered_queue_ne _ _ _ _)
  | true =>
    cases hpend : (s.ch ch).pendSheet with
    | none =>
      rw [routeClose_first htwo hpend]
      exact .inl rfl
    | some f0 =>
      rw [routeClose_second htwo hpend]
      exact .inr (entered_queue_ne _ _ _ _)

/-- A line that too few cells were freed for before goes on waiting. -/
theorem settleFrom_retried {n k : Nat} (h : Retried n t u) (hk : t.freeCells = k ∨ t.queue ≠ []) :
    settleFrom k t = t := by
  obtain ⟨hnone, _⟩ | ⟨ch, op, strikes, p, hwait, hbusy, hstage, hpaper, hfew, _⟩ := h
  · exact settleFrom_none hnone
  obtain hk | hqueue := hk
  · exact settleFrom_same hk.le
  · have hafter : afterFreeing t = t := by
      unfold afterFreeing
      rw [retryWaiting_stuck hwait hbusy hstage hpaper hfew, forceIfDry_queued hqueue]
    unfold settleFrom
    split
    · exact hafter
    · rfl

theorem offerPlace_eq {n : Nat} (h : Offered s t) (hr : Retried n t u) : offerPlace s = t := by
  obtain ⟨hnone, rfl⟩ | ⟨ch, op, p, hlist, hroom, hbusy, hstage, hkind, hcount, hpaper, hp, hover, hstop, heject, rfl⟩ |
    ⟨ch, p, hlist, hroom, hpaper, hcells, hnone, rfl⟩ := h
  · unfold offerPlace
    rw [hnone]
    exact settleFrom_same le_rfl
  · rw [offerPlace_single hlist hroom, takeClaim_space hlist List.not_mem_nil hroom hbusy hstage hkind hcount hpaper hp
      hover hstop heject]
    have hfrees := routeClose_frees ch p.form (State.modCh { s with roomWait := [] } ch (movedOnto p op.count))
    exact settleFrom_retried hr hfrees
  · rw [offerPlace_single hlist hroom, takeClaim_form hlist List.not_mem_nil hpaper hcells hnone]
    exact settleFrom_retried hr (.inr (entered_queue_ne _ _ _ _))

theorem afterFreeing_eq {n : Nat} (h : Retried n s u) : afterFreeing { s with freeCells := s.freeCells + n } = u := by
  obtain ⟨hnone, rfl⟩ | ⟨ch, op, strikes, p, hwait, hbusy, hstage, hpaper, hfew, hcase⟩ := h
  · exact afterFreeing_none hnone
  obtain ⟨hstuck, hqueue, rfl⟩ | ⟨hcells, hp, hkind, hcount, hstop, heject, hroom, rfl⟩ |
    ⟨hcells, hp, hkind, hcount, hover, hfull, hnew, hneeds, rfl⟩ := hcase
  · have hretry : retryWaiting { s with freeCells := s.freeCells + n } = { s with freeCells := s.freeCells + n } :=
      retryWaiting_stuck hwait hbusy hstage hpaper hstuck
    unfold afterFreeing
    rw [hretry]
    exact forceIfDry_queued hqueue
  · have hretry : LineRetry ch op strikes p { s with freeCells := s.freeCells + n } :=
      ⟨hwait, hbusy, hstage, hkind, hcount, hpaper, hp, hcells⟩
    have hprinted := hretry.afterFreeing_printed hstop heject (roomFor_congr hroom (by cases ch <;> rfl) (by cases ch <;> rfl)
      rfl rfl)
    refine hprinted.trans ?_
    cases ch <;> rfl
  · have hretry : LineRetry ch op strikes p { s with freeCells := s.freeCells + n } :=
      ⟨hwait, hbusy, hstage, hkind, hcount, hpaper, hp, hcells⟩
    refine (hretry.afterFreeing_waits hover hneeds hfull hnew).trans ?_
    cases ch <;> rfl

/-- The head sheet has been removed by a reply: the place is offered, the cells freed, the next sheet begun. -/
theorem leaveQueue_eq {n : Nat} {sh : Sheet} {rest : List Sheet} {counted : State} (hqueue : counted.queue = sh :: rest)
    (hcells : sh.cellCount = n) (hs : s.link.state ≠ .idleUp) (hl : l.state ≠ .idleUp)
    (hcounted : { counted with queue := rest, link := { counted.link with replyTimer := 0 } } = { s with link := l })
    (hoffered : Offered s t) (hretried : Retried n t u) : leaveQueue counted = begins u.queue l u := by
  have hoffered' := offered_withLink hoffered hs hl
  have hretried' := retried_withLink (l := l) hretried (by rw [offered_link hoffered hs]; exact hs) hl
  subst hcells
  unfold leaveQueue
  rw [hqueue]
  dsimp only
  rw [hcounted, offerPlace_eq hoffered' hretried']
  exact (congrArg startSheet (afterFreeing_eq hretried')).trans
    ((startSheet_eq_begins _).trans (begins_withLink u.queue l l u))

theorem exec_accept (hs : Hunting s) (number : Word) :
    exec (.accept number) s = .next (takeReply .accept number (takeLife (setReceiver (.hunting false) s))) :=
  congrArg Host.Outcome.next (receive_reply (k := .accept) (more := []) (by decide) rfl hs)

theorem exec_reject (hs : Hunting s) (number : Word) (reason : Byte) :
    exec (.reject number reason) s =
      .next (takeReply .reject number (takeLife (setReceiver (.hunting false) s))) :=
  congrArg Host.Outcome.next (receive_reply (k := .reject) (more := [reason]) (by decide) rfl hs)

theorem takeLife_awaiting (hstate : s.link.state = .awaiting) :
    takeLife (setReceiver (.hunting false) s) = { s with link := alive s.link } :=
  takeLife_of_up (s := setReceiver (.hunting false) s) (fun h => nomatch hstate.symm.trans h)
    fun h => nomatch hstate.symm.trans h

/-- The reply that names the head sheet in AWAITING is acted on (R111, R112). -/
theorem takeReply_head {sh : Sheet} {rest : List Sheet} (hstate : s.link.state = .awaiting)
    (hqueue : s.queue = sh :: rest) :
    takeReply .accept sh.number s = acceptSheet sh s ∧ takeReply .reject sh.number s = rejectSheet sh s := by
  unfold takeReply
  rw [hstate, hqueue]
  exact ⟨if_pos rfl, if_pos rfl⟩

theorem isOffline_iff (st : ChState) : st.isOffline = true ↔ st = .offline := by
  cases st <;> simp [ChState.isOffline]

end

end Sys2Proof.Machine

namespace Sys2Proof
open Sys2Proof.Machine Sys2Proof.Claims

/-- Settles O47: the head's reply counts the sheet and lets it leave, by the steps of R101. -/
theorem replyRemovesSheet : Obligations.ReplyRemovesSheet := by
  have hleaves : ∀ (sh : Sheet) (rest : List Sheet) (reason : Byte) (s : State),
      s.link.state = .awaiting → s.queue = sh :: rest → Hunting s →
      (∀ t u, Offered { s.modCh sh.channel (fun c => { c with sheetsAccepted := saturated c.sheetsAccepted 1 }) with
          queue := rest } t → Retried sh.cellCount t u →
        exec (.accept sh.number) s = .next (begins u.queue { alive s.link with
          replyTimer := 0, accepted := saturated s.link.accepted 1 } u)) ∧
      (∀ t u, Offered { s.modCh sh.channel (fun c => if c.state = .offline then c else { c with check := true }) with
          queue := rest } t → Retried sh.cellCount t u →
        exec (.reject sh.number reason) s = .next (begins u.queue { alive s.link with
          replyTimer := 0, rejected := saturated s.link.rejected 1 } u)) := by
    intro sh rest reason s hstate hqueue hs
    have hup : s.link.state ≠ .idleUp := fun h => nomatch hstate.symm.trans h
    obtain ⟨haccept, hreject⟩ := takeReply_head (s := { s with link := alive s.link }) hstate hqueue
    refine ⟨fun t u hoffered hretried => ?_, fun t u hoffered hretried => ?_⟩
    · rw [exec_accept hs, takeLife_awaiting hstate, haccept]
      refine congrArg Host.Outcome.next (leaveQueue_eq hqueue rfl ?_ ?_ ?_ hoffered hretried)
      · exact hup
      · exact hup
      · cases sh.channel <;> rfl
    · rw [exec_reject hs, takeLife_awaiting hstate, hreject]
      have hcheck : s.modCh sh.channel (fun c => if c.state = .offline then c else { c with check := true }) =
          s.modCh sh.channel fun c => if c.state.isOffline then c else { c with check := true } := by
        refine modCh_congr ?_
        simp only [isOffline_iff]
      rw [hcheck] at hoffered
      refine congrArg Host.Outcome.next (leaveQueue_eq hqueue rfl ?_ ?_ ?_ hoffered hretried)
      · exact hup
      · exact hup
      · cases sh.channel <;> rfl
  refine ⟨fun sh rest reason s hstate hqueue hs hroom hcells => ?_, fun sh rest reason s hstate hqueue hs =>
    hleaves sh rest reason s hstate hqueue hs⟩
  obtain ⟨haccept, hreject⟩ := hleaves sh rest reason s hstate hqueue hs
  exact ⟨haccept _ _ (.inl ⟨hroom, rfl⟩) (.inl ⟨hcells, rfl⟩), hreject _ _ (.inl ⟨hroom, rfl⟩) (.inl ⟨hcells, rfl⟩)⟩

end Sys2Proof
end

section
/-! PROOF. The host bus reset: each channel's turn, the waits it empties, and the places granted afterwards (R22, R70,
R136, R141). -/

namespace Sys2Proof.Machine
open Sys2Proof.Claims

/-! ### A channel after its reset (R3, R22) -/

theorem hostReset_eq_afterReset (c : Channel) : c.hostReset = afterReset c := by
  obtain ⟨st⟩ := c
  cases st <;> rfl

theorem hostReset_hostReset (c : Channel) : c.hostReset.hostReset = c.hostReset := by
  obtain ⟨st⟩ := c
  cases st <;> rfl

theorem hostReset_quiet (c : Channel) : c.hostReset.state.isBusy = false ∧ c.hostReset.state ≠ .halted := by
  obtain ⟨st⟩ := c
  cases st <;> exact ⟨rfl, nofun⟩

theorem hostReset_settings (c : Channel) : SameSettings c c.hostReset := ⟨Channel.hostReset_offline c, rfl, rfl⟩

/-! ### What every part of the reset keeps -/

/-- What the reset keeps once the path unit has withdrawn the host cycle. -/
structure ResetKept (s t : State) : Prop where
  windows : t.windows = s.windows
  shadow : t.shadow = s.shadow
  panel : t.panel = s.panel
  presented : t.presented = s.presented
  passedOver : t.passedOver = s.passedOver
  channels : ChannelsKept s t

theorem ResetKept.refl (s : State) : ResetKept s s := ⟨rfl, rfl, rfl, rfl, rfl, .refl s⟩

theorem ResetKept.trans {s t u : State} (h : ResetKept s t) (k : ResetKept t u) : ResetKept s u :=
  ⟨k.windows.trans h.windows, k.shadow.trans h.shadow, k.panel.trans h.panel, k.presented.trans h.presented,
    k.passedOver.trans h.passedOver, h.channels.trans k.channels⟩

theorem ResetKept.of_path {s t : State} (h : PathKept s t) (k : ChannelsKept s t) : ResetKept s t :=
  ⟨h.windows, h.shadow, h.panel, h.presented, h.passedOver, k⟩

theorem ResetKept.foldl {f : State → ChannelId → State} (h : ∀ s ch, ResetKept s (f s ch)) (l : List ChannelId)
    (s : State) : ResetKept s (l.foldl f s) := by
  induction l generalizing s with
  | nil => exact .refl s
  | cons ch l ih => exact (h s ch).trans (ih _)

theorem resetChannel_kept (ch : ChannelId) (s : State) : ResetKept s (resetChannel ch s) :=
  ⟨rfl, rfl, rfl, rfl, rfl, ChannelsKept.trans (t := s.modCh ch Channel.hostReset)
    (.modCh (hostReset_settings _)) (.of_chans rfl)⟩

theorem resetInTurn_kept (s : State) (ch : ChannelId) : ResetKept s (resetInTurn s ch) := by
  unfold resetInTurn
  split
  · exact (resetChannel_kept ch s).trans
      (.of_path (afterFreeing_kept _).toPathKept (afterFreeing_settings _).channels)
  · exact resetChannel_kept ch s

theorem relistSetup_kept (removed : List FetchWord) (s : State) : ResetKept s (relistSetup removed s) := by
  unfold relistSetup
  split
  · exact .refl s
  · exact ⟨rfl, rfl, rfl, rfl, rfl, .of_chans rfl⟩

theorem regrant_kept (s : State) : ResetKept s (regrant s) := by
  unfold regrant
  split
  · exact .of_path (askPlaces_kept ..) (askPlaces_channels _ _)
  · split
    · exact .of_path (grantPlaces_kept ..) (grantPlaces_channels _ _)
    · exact ResetKept.trans (t := { s with placeWait := s.placeWait ++ [.setup] })
        ⟨rfl, rfl, rfl, rfl, rfl, .of_chans rfl⟩ (.of_path (grantPlaces_kept ..) (grantPlaces_channels _ _))

/-! ### The turns leave no FETCH in the queue -/

theorem resetInTurn_fetches (s : State) (ch : ChannelId) :
    (resetInTurn s ch).ownQueue.filter OwnEntry.isFetch = s.ownQueue.filter OwnEntry.isFetch := by
  unfold resetInTurn
  split
  · exact (afterFreeing_settings (resetChannel ch s)).ownQueue.fetches
  · rfl

theorem foldl_resetInTurn_fetches (order : List ChannelId) (s : State) :
    (order.foldl resetInTurn s).ownQueue.filter OwnEntry.isFetch = s.ownQueue.filter OwnEntry.isFetch := by
  induction order generalizing s with
  | nil => rfl
  | cons ch order ih => rw [List.foldl_cons, ih, resetInTurn_fetches]

theorem relistSetup_ownQueue (removed : List FetchWord) (s : State) :
    (relistSetup removed s).ownQueue = s.ownQueue := by
  unfold relistSetup
  split <;> rfl

/-! ### Channels reset one after another -/

/-- The channels of a list taken through the reset. -/
def resetAll (l : List ChannelId) (s : State) : State := l.foldl (fun acc ch => resetChannel ch acc) s

/-- The FETCH in progress of an operation of any channel in a list is abandoned. -/
def abandonAll (l : List ChannelId) (e : OwnEntry) : OwnEntry := l.foldl (fun e ch => abandonFetch ch e) e

theorem resetAll_ch (l : List ChannelId) (s : State) (i : ChannelId) :
    (resetAll l s).ch i = if i ∈ l then (s.ch i).hostReset else s.ch i := by
  induction l generalizing s with
  | nil => rfl
  | cons ch l ih =>
    have hfirst : (resetChannel ch s).ch i = if i = ch then (s.ch i).hostReset else s.ch i := by
      by_cases hi : i = ch
      · subst hi
        rw [if_pos rfl]
        exact State.ch_modCh_same s i Channel.hostReset
      · rw [if_neg hi]
        exact State.ch_modCh_other s Channel.hostReset hi
    change (resetAll l (resetChannel ch s)).ch i = _
    rw [ih, hfirst]
    by_cases hi : i = ch
    · rw [if_pos hi, hostReset_hostReset, ite_self, if_pos (List.mem_cons.mpr (.inl hi))]
    · rw [if_neg hi]
      by_cases hl : i ∈ l
      · rw [if_pos hl, if_pos (List.mem_cons_of_mem ch hl)]
      · rw [if_neg hl, if_neg (by rw [List.mem_cons]; exact fun h => h.elim hi hl)]

theorem resetAll_eq (l : List ChannelId) (s : State) : resetAll l s = { s with
    chans := (resetAll l s).chans
    cellWait := s.cellWait.filter fun x => decide (x ∉ l)
    roomWait := s.roomWait.filter fun x => decide (∀ ch ∈ l, x ≠ .move ch)
    placeWait := s.placeWait.filter fun x => decide (∀ ch ∈ l, x ≠ .operation ch)
    ownCycle := s.ownCycle.map (abandonAll l) } := by
  induction l generalizing s with
  | nil =>
    have hcycle : s.ownCycle.map (abandonAll []) = s.ownCycle := by cases s.ownCycle <;> rfl
    rw [hcycle]
    simp [resetAll]
  | cons ch l ih =>
    have hcycle : (s.ownCycle.map (abandonFetch ch)).map (abandonAll l) = s.ownCycle.map (abandonAll (ch :: l)) := by
      cases s.ownCycle <;> rfl
    change resetAll l (resetChannel ch s) = _
    rw [ih]
    change { s with
      chans := (resetAll (ch :: l) s).chans
      cellWait := (s.cellWait.filter fun x => decide (x ≠ ch)).filter fun x => decide (x ∉ l)
      roomWait := (s.roomWait.filter fun x => decide (x ≠ Claim.move ch)).filter fun x =>
        decide (∀ i ∈ l, x ≠ Claim.move i)
      placeWait := (s.placeWait.filter fun x => decide (x ≠ Requester.operation ch)).filter fun x =>
        decide (∀ i ∈ l, x ≠ Requester.operation i)
      ownCycle := (s.ownCycle.map (abandonFetch ch)).map (abandonAll l) } = _
    simp only [List.filter_filter, hcycle, ← Bool.decide_and, List.mem_cons, forall_eq_or_imp, not_or, and_comm]

theorem abandonAll_tally (l : List ChannelId) (c : ChannelId) (a : Addr) (v : Word) :
    abandonAll l (.tally c a v) = .tally c a v := by
  induction l with
  | nil => rfl
  | cons ch l ih => exact ih

theorem abandonAll_fetch {l : List ChannelId} {req : Requester} (f : FetchWord)
    (h : ∀ ch ∈ l, req ≠ .operation ch) : abandonAll l (.fetch req f) = .fetch req f := by
  induction l with
  | nil => rfl
  | cons ch l ih =>
    have hfirst : abandonFetch ch (.fetch req f) = .fetch req f := by
      exact congrArg (OwnEntry.fetch · f) (if_neg (h ch List.mem_cons_self))
    change abandonAll l (abandonFetch ch (.fetch req f)) = _
    rw [hfirst]
    exact ih fun i hi => h i (List.mem_cons_of_mem ch hi)

theorem abandonAll_operation {l : List ChannelId} {ch : ChannelId} (f : FetchWord) (h : ch ∈ l) :
    abandonAll l (.fetch (.operation ch) f) = .fetch (.abandoned ch) f := by
  induction l with
  | nil => cases h
  | cons i l ih =>
    change abandonAll l (abandonFetch i (.fetch (.operation ch) f)) = _
    by_cases hi : i = ch
    · subst hi
      have hfirst : abandonFetch i (.fetch (.operation i) f) = .fetch (.abandoned i) f := by
        exact congrArg (OwnEntry.fetch · f) (if_pos rfl)
      rw [hfirst]
      exact abandonAll_fetch f fun j _ => nofun
    · have hfirst : abandonFetch i (.fetch (.operation ch) f) = .fetch (.operation ch) f := by
        exact congrArg (OwnEntry.fetch · f) (if_neg fun h => hi (Requester.operation.inj h).symm)
      rw [hfirst]
      exact ih ((List.mem_cons.mp h).resolve_left fun hch => hi hch.symm)

/-! ### The state once every channel has taken the reset -/

/-- No operation is left, and nothing of one waits. -/
structure Drained (s : State) : Prop where
  channels : ∀ ch, (s.ch ch).hostReset = s.ch ch
  cells : s.cellWait = []
  claims : ∀ ch, Claim.move ch ∉ s.roomWait
  fetches : ∀ ch f, OwnEntry.fetch (.operation ch) f ∉ s.ownQueue
  places : ∀ ch, Requester.operation ch ∉ s.placeWait

theorem drained_resetAll {l : List ChannelId} {s : State} (hall : ∀ ch, ch ∈ l)
    (hqueue : s.ownQueue.filter OwnEntry.isFetch = []) : Drained (resetAll l s) := by
  have hch : ∀ ch, (resetAll l s).ch ch = (s.ch ch).hostReset := fun ch =>
    (resetAll_ch l s ch).trans (if_pos (hall ch))
  refine ⟨fun ch => by rw [hch, hostReset_hostReset], ?_, fun ch => ?_, fun ch f => ?_, fun ch => ?_⟩
  · rw [resetAll_eq, List.filter_eq_nil_iff]
    exact fun ch _ => by simpa using hall ch
  · rw [resetAll_eq]
    intro hmem
    exact (of_decide_eq_true (List.mem_filter.mp hmem).2) ch (hall ch) rfl
  · rw [resetAll_eq]
    intro hmem
    exact List.filter_eq_nil_iff.mp hqueue _ hmem rfl
  · rw [resetAll_eq]
    intro hmem
    exact (of_decide_eq_true (List.mem_filter.mp hmem).2) ch (hall ch) rfl

theorem Drained.grantPlace {s : State} (h : Drained s) : Drained (grantPlace s) := by
  obtain ⟨hchans, hcells, hclaims, hfetches, hplaces⟩ := h
  unfold Machine.grantPlace
  split
  · exact ⟨hchans, hcells, hclaims, hfetches, hplaces⟩
  next req rest hwait =>
    have hrest : ∀ ch, Requester.operation ch ∉ rest := fun ch hmem =>
      hplaces ch (by rw [hwait]; exact List.mem_cons_of_mem req hmem)
    split
    · exact ⟨hchans, hcells, hclaims, hfetches, hrest⟩
    next w more hlisted =>
      cases req with
      | operation ch => exact absurd (by rw [hwait]; exact List.mem_cons_self) (hplaces ch)
      | abandoned ch => cases hlisted
      | setup =>
        have hgiven : (∀ ch, ((s.giveListed .setup).ch ch) = s.ch ch) ∧
            (s.giveListed .setup).cellWait = s.cellWait ∧ (s.giveListed .setup).roomWait = s.roomWait ∧
            (s.giveListed .setup).ownQueue = s.ownQueue := by
          unfold State.giveListed
          dsimp only
          split <;> exact ⟨fun ch => rfl, rfl, rfl, rfl⟩
        obtain ⟨hch, hcells', hclaims', hqueue'⟩ := hgiven
        refine ⟨fun ch => ?_, hcells'.trans hcells, fun ch => ?_, fun ch f hmem => ?_, fun ch hmem => ?_⟩
        · change ((s.giveListed .setup).ch ch).hostReset = (s.giveListed .setup).ch ch
          rw [hch, hchans]
        · change Claim.move ch ∉ (s.giveListed .setup).roomWait
          rw [hclaims']
          exact hclaims ch
        · change OwnEntry.fetch (.operation ch) f ∈ (s.giveListed .setup).ownQueue ++ [OwnEntry.fetch .setup w] at hmem
          rw [hqueue'] at hmem
          obtain hmem | hmem := List.mem_append.mp hmem
          · exact hfetches ch f hmem
          · cases List.mem_singleton.mp hmem
        · dsimp only at hmem
          split at hmem
          · exact hrest ch hmem
          · obtain hmem | hmem := List.mem_append.mp hmem
            · exact hrest ch hmem
            · cases List.mem_singleton.mp hmem

theorem Drained.grantPlaces {s : State} (h : Drained s) (n : Nat) : Drained (grantPlaces n s) := by
  induction n generalizing s with
  | zero => exact h
  | succ n ih => exact ih h.grantPlace

theorem Drained.withPlaces {s : State} (h : Drained s) {l : List Requester} (hl : ∀ ch, Requester.operation ch ∉ l) :
    Drained { s with placeWait := l } := by
  obtain ⟨hchans, hcells, hclaims, hfetches, _⟩ := h
  exact ⟨hchans, hcells, hclaims, hfetches, hl⟩

theorem Drained.regrant {s : State} (h : Drained s) : Drained (regrant s) := by
  have hsetup : ∀ ch, Requester.operation ch ∉ [Requester.setup] := fun ch hmem => nomatch List.mem_singleton.mp hmem
  have hjoined : Drained { s with placeWait := s.placeWait ++ [.setup] } := h.withPlaces fun ch hmem =>
    (List.mem_append.mp hmem).elim (h.places ch) (hsetup ch)
  unfold Machine.regrant
  split
  · unfold askPlaces
    split
    · exact h
    · exact (h.withPlaces hsetup).grantPlaces _
  · split
    · exact h.grantPlaces _
    · exact hjoined.grantPlaces _

theorem hostReset_drained (order : List ChannelId) (s : State) : Drained (hostReset order s) := by
  refine Drained.regrant (drained_resetAll mem_allChannels ?_)
  rw [foldl_resetInTurn_fetches, relistSetup_ownQueue]
  change (s.ownQueue.filter fun e => !e.isFetch).filter OwnEntry.isFetch = []
  rw [List.filter_filter, List.filter_eq_nil_iff]
  intro e _
  cases e.isFetch <;> simp

theorem hostReset_kept (order : List ChannelId) (s : State) : ResetKept (resetPath s) (hostReset order s) :=
  (((relistSetup_kept _ _).trans (ResetKept.foldl resetInTurn_kept order _)).trans
    (ResetKept.foldl (fun s ch => resetChannel_kept ch s) allChannels _)).trans (regrant_kept _)

/-! ### A reset that finds no waiting line and no apply record -/

theorem foldl_resetInTurn_quiet (order : List ChannelId) {s : State} (h : s.cellWait = []) :
    order.foldl resetInTurn s = resetAll order s := by
  induction order generalizing s with
  | nil => rfl
  | cons ch order ih =>
    have hturn : resetInTurn s ch = resetChannel ch s := by
      unfold resetInTurn
      rw [h]
      exact if_neg nofun
    have hcells : (resetChannel ch s).cellWait = [] := by
      change s.cellWait.filter _ = []
      rw [h]
      rfl
    rw [List.foldl_cons, hturn, ih hcells]
    rfl

theorem resetAll_append (l m : List ChannelId) (s : State) : resetAll m (resetAll l s) = resetAll (l ++ m) s :=
  (List.foldl_append ..).symm

/-- No place is granted where nobody waits and the setup unit has no record. -/
theorem regrant_idle {s : State} (hplaces : s.placeWait = []) (hrecord : s.setup.apply = none) : regrant s = s := by
  have hlisted : s.listed .setup = [] := by
    unfold State.listed
    rw [hrecord]
  unfold regrant
  rw [hplaces]
  exact askPlaces_same (.inl hlisted)

theorem hostReset_quiet_eq {s : State} (order : List ChannelId) (hcells : s.cellWait = [])
    (hrecord : s.setup.apply = none) (hplaces : ∀ r ∈ s.placeWait, ∃ ch, r = .operation ch) :
    hostReset order s = resetAll (order ++ allChannels) (resetPath s) := by
  have hrelist : ∀ removed, relistSetup removed (resetPath s) = resetPath s := fun removed => by
    unfold relistSetup
    rw [show (resetPath s).setup.apply = none from hrecord]
  have hall : ∀ ch, ch ∈ order ++ allChannels := fun ch => List.mem_append_right order (mem_allChannels ch)
  unfold hostReset
  dsimp only
  rw [hrelist, foldl_resetInTurn_quiet order (s := resetPath s) hcells]
  change regrant (resetAll allChannels (resetAll order (resetPath s))) = _
  rw [resetAll_append]
  refine regrant_idle ?_ ?_
  · rw [resetAll_eq, List.filter_eq_nil_iff]
    rintro r hr hkept
    obtain ⟨ch, rfl⟩ := hplaces r hr
    exact (of_decide_eq_true hkept) ch (hall ch) rfl
  · rw [resetAll_eq]
    exact hrecord

end Sys2Proof.Machine

namespace Sys2Proof
open Sys2Proof.Machine Sys2Proof.Claims

/-- Settles O39: every channel takes the reset in the end, and where no line waits the turns are nothing more. -/
theorem hostBusReset : Obligations.HostBusReset := by
  refine ⟨fun order s => ⟨hostReset order s, rfl, fun ch => ?_, ?_⟩, fun order s hcells hrecord hplaces => ?_⟩
  · obtain ⟨_, hmode, hlayout⟩ := (hostReset_kept order s).channels ch
    have hreset := (hostReset_drained order s).channels ch
    obtain ⟨hbusy, hhalted⟩ := hostReset_quiet ((hostReset order s).ch ch)
    refine ⟨?_, ?_, ?_, ?_, ?_, ?_, ?_, ?_, ?_, ?_, ?_, ?_, hmode, hlayout⟩
    all_goals rw [← hreset]
    · exact hbusy
    · exact hhalted
    all_goals rfl
  · obtain ⟨_, hcells, hclaims, hfetches, hplaces⟩ := hostReset_drained order s
    obtain ⟨hwindows, hshadow, hpanel, hpresented, hpassed, _⟩ := hostReset_kept order s
    exact ⟨hcells, hclaims, hpresented, hpassed, hfetches, hplaces, hwindows, hshadow, hpanel⟩
  · have hall : ∀ ch, ch ∈ order ++ allChannels := fun ch => List.mem_append_right order (mem_allChannels ch)
    have hch : ∀ ch, (resetAll (order ++ allChannels) (resetPath s)).ch ch = afterReset (s.ch ch) := fun ch =>
      ((resetAll_ch _ _ ch).trans (if_pos (hall ch))).trans (hostReset_eq_afterReset _)
    have hchans : (resetAll (order ++ allChannels) (resetPath s)).chans =
        ⟨afterReset s.chans.ch0, afterReset s.chans.ch1, afterReset s.chans.ch2, afterReset s.chans.ch3⟩ := by
      exact congr (congr (congr (congrArg Channels.mk (hch .c0)) (hch .c1)) (hch .c2)) (hch .c3)
    change Host.Outcome.next (hostReset order s) = _
    rw [hostReset_quiet_eq order hcells hrecord hplaces, resetAll_eq, hchans]
    have hnoPlaces : ((resetPath s).placeWait.filter fun x =>
        decide (∀ ch ∈ order ++ allChannels, x ≠ .operation ch)) = [] := by
      rw [List.filter_eq_nil_iff]
      rintro r hr hkept
      obtain ⟨ch, rfl⟩ := hplaces r hr
      exact (of_decide_eq_true hkept) ch (hall ch) rfl
    have hnoLines : ((resetPath s).cellWait.filter fun x => decide (x ∉ order ++ allChannels)) = s.cellWait := by
      rw [show (resetPath s).cellWait = [] from hcells, hcells]
      rfl
    rw [hnoPlaces, hnoLines]
    refine congrArg₂ (fun cycle claims => Host.Outcome.next { s with
      presented := none, passedOver := 0, placeWait := []
      ownQueue := s.ownQueue.filter fun e => !e.isFetch
      ownCycle := cycle
      chans := ⟨afterReset s.chans.ch0, afterReset s.chans.ch1, afterReset s.chans.ch2, afterReset s.chans.ch3⟩
      roomWait := claims }) ?_ ?_
    · refine Option.map_congr fun e _ => ?_
      cases e with
      | tally c a v => exact abandonAll_tally _ c a v
      | fetch req f =>
        cases req with
        | operation ch => exact abandonAll_operation f (hall ch)
        | setup => exact abandonAll_fetch f fun ch _ => nofun
        | abandoned ch => exact abandonAll_fetch f fun ch _ => nofun
    · refine List.filter_congr fun x _ => ?_
      cases x with
      | move ch => exact decide_eq_false fun h => h ch (hall ch) rfl
      | runOut ch => exact decide_eq_true fun i _ => nofun

end Sys2Proof
end
